-- ==== Sys2Proof/Word.lean ====
section
/-! DEFINITION. The words the PL64 speaks in: bytes, 16-bit numbers, colours, slot numbers and client numbers
(spec/00_scope.md, Conventions). -/

namespace Sys2Proof

/-- A byte of a message. -/
abbrev Byte := BitVec 8

/-- An unsigned 16-bit number of a message: a tag, a coordinate or a frame number. -/
abbrev Word16 := BitVec 16

/-- A 24-bit RGB colour: red in the top byte, blue in the bottom one (Conventions, Colours). -/
abbrev Colour := BitVec 24

/-- A slot of the Region Table, 0 to 63 (R1). -/
abbrev Slot := Fin 64

/-- A client number n of session Cn and port CPn, 0 to 3 (R24). -/
abbrev Client := Fin 4

end Sys2Proof
end

