-- ==== Sys2Proof/Syntax.lean ====
section
/-! DEFINITION. The commands of the PL64: one constructor of `Instr` for each row of spec/opcode_table.json, and the
requests that the ports carry (R200). -/

namespace Sys2Proof

/-- The five sessions C0 to C3 and SUP (R24). -/
inductive Session where
  | client (n : Client)
  | sup
  deriving DecidableEq, Repr

/-- The five ports CP0 to CP3 and SP. A port's number identifies its sender, so a port is named by its session (R25). -/
abbrev Port := Session

/-- The region field block of OPEN, AMEND and PIN, every bit of its 23 bytes (R200). -/
structure FieldBlock where
  tag      : Word16
  mask     : Word16
  x0       : Word16
  y0       : Word16
  x1       : Word16
  y1       : Word16
  layer    : Byte
  rank     : Byte
  lease    : Byte
  fill     : Byte
  stream   : Byte
  colour   : Colour
  fallback : Colour
  deriving DecidableEq, Repr

/-- The request kinds of R200. `renew` is the kind of both RENEW and RENEW_ALL. -/
inductive Kind where
  | attach | detach | openRegion | amend | renew | release | lookup | probe | walkStart | walkNext | fetchNotices
  | pin | unpin | lookupSlot | setLimits | suspend | resume | evict | configure | start | hold | resumeScan | stop
  | forceCommit | clearTable | softReset | readStatus | fetchAlerts | setAlertMask
  deriving DecidableEq, Repr

/-- A request's kind with the fields of its body, as the body carries them (R200). -/
inductive Call where
  | attach
  | detach
  | openRegion (block : FieldBlock)
  | amend (block : FieldBlock)
  | renew (tag : Word16)
  | release (tag : Word16)
  | lookup (tag : Word16)
  | probe (x y : Word16)
  | walkStart (filter : Byte)
  | walkNext
  | fetchNotices
  | pin (block : FieldBlock)
  | unpin (tag : Word16)
  | lookupSlot (slot : Byte)
  | setLimits (client quota ceiling leaseMax : Byte)
  | suspend (client : Byte)
  | resume (client : Byte)
  | evict (client : Byte)
  | configure (width height : Word16) (background : Colour) (grace : Byte)
  | start
  | hold
  | resumeScan
  | stop
  | forceCommit
  | clearTable
  | softReset
  | readStatus
  | fetchAlerts
  | setAlertMask (mask : Byte)
  deriving DecidableEq, Repr

/-- A whole request as a port's buffer holds it: the sequence number of its header, its kind and its body (R188, R190). -/
structure Request where
  seq  : Byte
  call : Call
  deriving DecidableEq, Repr

/-- The level of an input pin. -/
inductive PinLevel where
  | low
  | high
  deriving DecidableEq, Repr

/-- The commands: one constructor for each row of spec/opcode_table.json. A request command names the port the request
is taken from, the sequence number of its header and the fields of its body. HEADER_FRAMING_CHECK names the
three bytes of its header, and REQUEST_DECISION carries the bytes that arrive (R190). -/
inductive Instr where
  | attach (port : Port) (seq : Byte)
  | detach (port : Port) (seq : Byte)
  | openRegion (port : Port) (seq : Byte) (block : FieldBlock)
  | amend (port : Port) (seq : Byte) (block : FieldBlock)
  | renew (port : Port) (seq : Byte) (tag : Word16)
  | renewAll (port : Port) (seq : Byte)
  | release (port : Port) (seq : Byte) (tag : Word16)
  | pin (port : Port) (seq : Byte) (block : FieldBlock)
  | unpin (port : Port) (seq : Byte) (tag : Word16)
  | lookup (port : Port) (seq : Byte) (tag : Word16)
  | lookupSlot (port : Port) (seq : Byte) (slot : Byte)
  | probe (port : Port) (seq : Byte) (x y : Word16)
  | walkStart (port : Port) (seq : Byte) (filter : Byte)
  | walkNext (port : Port) (seq : Byte)
  | fetchNotices (port : Port) (seq : Byte)
  | setLimits (port : Port) (seq : Byte) (client quota ceiling leaseMax : Byte)
  | suspend (port : Port) (seq : Byte) (client : Byte)
  | resume (port : Port) (seq : Byte) (client : Byte)
  | evict (port : Port) (seq : Byte) (client : Byte)
  | configure (port : Port) (seq : Byte) (width height : Word16) (background : Colour) (grace : Byte)
  | start (port : Port) (seq : Byte)
  | hold (port : Port) (seq : Byte)
  | resumeScan (port : Port) (seq : Byte)
  | stop (port : Port) (seq : Byte)
  | forceCommit (port : Port) (seq : Byte)
  | clearTable (port : Port) (seq : Byte)
  | softReset (port : Port) (seq : Byte)
  | readStatus (port : Port) (seq : Byte)
  | fetchAlerts (port : Port) (seq : Byte)
  | setAlertMask (port : Port) (seq : Byte) (mask : Byte)
  | vblank
  | fstart
  | resetN (level : PinLevel)
  | commit
  | leaseLapse (slot : Slot)
  | graceRetire (slot : Slot)
  | resolveCompletion
  | planQuery
  | lineQuery (y : Word16)
  | bandQuery (index : Byte)
  | unknownQuery (code : Byte)
  | answerSent
  | selectFall (port : Port)
  | writeCommand (port : Port)
  | readCommand (port : Port)
  | badCommandByte (port : Port) (byte : Byte)
  | headerFramingCheck (port : Port) (kind seq length : Byte)
  | requestDecision (port : Port) (bytes : List Byte)
  | responseSent (port : Port)
  | selectRise (port : Port)
  | statusByteSent (port : Port)
  deriving DecidableEq, Repr

end Sys2Proof
end

