-- ==== Sys2Proof/WellFormed.lean ====
section
/-! DEFINITION. Which terms of `Instr` name a happening of their row at all, whatever the state. -/

namespace Sys2Proof

/-- RENEW of one tag names a tag from 1 to 65535; tag 0 is RENEW_ALL (R59, R61). -/
abbrev Instr.renewNamesATag : Instr → Prop
  | .renew _ _ tag => tag ≠ 0
  | _ => True

/-- BAD_COMMAND_BYTE carries a byte other than the two command bytes 01h and 02h (R189). -/
abbrev Instr.commandByteIsBad : Instr → Prop
  | .badCommandByte _ b => b ≠ 1 ∧ b ≠ 2
  | _ => True

/-- UNKNOWN_QUERY carries a code other than 01h PLAN, 02h LINE and 03h BAND (R201). -/
abbrev Instr.queryCodeIsUnknown : Instr → Prop
  | .unknownQuery c => c ≠ 1 ∧ c ≠ 2 ∧ c ≠ 3
  | _ => True

/-- No kind has a body longer than 23 bytes (R191), so no command carries more. -/
abbrev Instr.bytesFit : Instr → Prop
  | .requestDecision _ bytes => bytes.length ≤ 23
  | _ => True

/-- The command is one that its row describes. -/
abbrev Instr.WellFormed (i : Instr) : Prop :=
  i.renewNamesATag ∧ i.commandByteIsBad ∧ i.queryCodeIsUnknown ∧ i.bytesFit

end Sys2Proof
end

