-- ==== Sys2Proof/Decode.lean ====
section
/-! DEFINITION. The kind codes and body layouts of R200 read from bytes and written as bytes, and the word decoder that
the host asks for. The opcode table gives no row any bits, so no word spells a command. -/

namespace Sys2Proof

/-- A 16-bit field, most significant byte first (R200). -/
def word16Bytes (w : Word16) : List Byte := [w.extractLsb' 8 8, w.extractLsb' 0 8]

/-- A colour, in the order red, green, blue (R200). -/
def colourBytes (c : Colour) : List Byte := [c.extractLsb' 16 8, c.extractLsb' 8 8, c.extractLsb' 0 8]

/-- Two bytes read most significant first (R200). -/
def word16Of (hi lo : Byte) : Word16 := hi ++ lo

/-- Three bytes read red, green, blue (R200). -/
def colourOf (r g b : Byte) : Colour := (r ++ g : BitVec 16) ++ b

/-- The code of a request kind (R200). -/
def Kind.code : Kind → Byte
  | .attach => 0x01#8
  | .detach => 0x02#8
  | .openRegion => 0x03#8
  | .amend => 0x04#8
  | .renew => 0x05#8
  | .release => 0x06#8
  | .lookup => 0x07#8
  | .probe => 0x08#8
  | .walkStart => 0x09#8
  | .walkNext => 0x0A#8
  | .fetchNotices => 0x0B#8
  | .pin => 0x20#8
  | .unpin => 0x21#8
  | .lookupSlot => 0x22#8
  | .setLimits => 0x23#8
  | .suspend => 0x24#8
  | .resume => 0x25#8
  | .evict => 0x26#8
  | .configure => 0x27#8
  | .start => 0x28#8
  | .hold => 0x29#8
  | .resumeScan => 0x2A#8
  | .stop => 0x2B#8
  | .forceCommit => 0x2C#8
  | .clearTable => 0x2D#8
  | .softReset => 0x2E#8
  | .readStatus => 0x2F#8
  | .fetchAlerts => 0x30#8
  | .setAlertMask => 0x31#8

/-- Every kind of the request kind table, in the table's order of codes (R200). -/
def allKinds : List Kind :=
  [.attach, .detach, .openRegion, .amend, .renew, .release, .lookup, .probe, .walkStart, .walkNext, .fetchNotices,
   .pin, .unpin, .lookupSlot, .setLimits, .suspend, .resume, .evict, .configure, .start, .hold, .resumeScan, .stop,
   .forceCommit, .clearTable, .softReset, .readStatus, .fetchAlerts, .setAlertMask]

/-- The kind a code names, none where the table lists no such kind (R191, R200). -/
def kindOfCode (b : Byte) : Option Kind := allKinds.find? (fun k => k.code == b)

/-- The body length that the table gives for a kind (R200). -/
def Kind.bodyLength : Kind → Nat
  | .openRegion | .amend | .pin => 23
  | .renew | .release | .lookup | .unpin => 2
  | .probe | .setLimits => 4
  | .configure => 8
  | .walkStart | .lookupSlot | .suspend | .resume | .evict | .setAlertMask => 1
  | .attach | .detach | .walkNext | .fetchNotices | .start | .hold | .resumeScan | .stop | .forceCommit | .clearTable
  | .softReset | .readStatus | .fetchAlerts => 0

/-- The kind of a request (R200). -/
def Call.kind : Call → Kind
  | .attach => .attach
  | .detach => .detach
  | .openRegion _ => .openRegion
  | .amend _ => .amend
  | .renew _ => .renew
  | .release _ => .release
  | .lookup _ => .lookup
  | .probe _ _ => .probe
  | .walkStart _ => .walkStart
  | .walkNext => .walkNext
  | .fetchNotices => .fetchNotices
  | .pin _ => .pin
  | .unpin _ => .unpin
  | .lookupSlot _ => .lookupSlot
  | .setLimits _ _ _ _ => .setLimits
  | .suspend _ => .suspend
  | .resume _ => .resume
  | .evict _ => .evict
  | .configure _ _ _ _ => .configure
  | .start => .start
  | .hold => .hold
  | .resumeScan => .resumeScan
  | .stop => .stop
  | .forceCommit => .forceCommit
  | .clearTable => .clearTable
  | .softReset => .softReset
  | .readStatus => .readStatus
  | .fetchAlerts => .fetchAlerts
  | .setAlertMask _ => .setAlertMask

/-- A region field block read from 23 bytes at the offsets of R200. -/
def blockOfBytes : List Byte → Option FieldBlock
  | [t1, t0, m1, m0, a1, a0, b1, b0, c1, c0, d1, d0, layer, rank, lease, fill, stream, r, g, b, fr, fg, fb] =>
    some { tag := word16Of t1 t0, mask := word16Of m1 m0, x0 := word16Of a1 a0, y0 := word16Of b1 b0,
           x1 := word16Of c1 c0, y1 := word16Of d1 d0, layer := layer, rank := rank, lease := lease, fill := fill,
           stream := stream, colour := colourOf r g b, fallback := colourOf fr fg fb }
  | _ => none

/-- The 23 bytes of a region field block (R200). -/
def blockBytes (f : FieldBlock) : List Byte :=
  word16Bytes f.tag ++ word16Bytes f.mask ++ word16Bytes f.x0 ++ word16Bytes f.y0 ++ word16Bytes f.x1
    ++ word16Bytes f.y1 ++ [f.layer, f.rank, f.lease, f.fill, f.stream] ++ colourBytes f.colour
    ++ colourBytes f.fallback

/-- A two-byte body is a tag (R200, note 2). -/
def tagOfBytes : List Byte → Option Word16
  | [hi, lo] => some (word16Of hi lo)
  | _ => none

/-- A one-byte body (R200, note 2). -/
def byteOfBytes : List Byte → Option Byte
  | [b] => some b
  | _ => none

/-- An empty body, for a kind of body length 0 (R200). -/
def emptyBody (c : Call) : List Byte → Option Call
  | [] => some c
  | _ => none

/-- The body of PROBE: x then y (R200, note 2). -/
def probeOfBytes : List Byte → Option Call
  | [xh, xl, yh, yl] => some (.probe (word16Of xh xl) (word16Of yh yl))
  | _ => none

/-- The body of SET_LIMITS: client, quota, layer ceiling and lease maximum (R200, note 2). -/
def limitsOfBytes : List Byte → Option Call
  | [c, n, l, m] => some (.setLimits c n l m)
  | _ => none

/-- The body of CONFIGURE: W, H, background and grace (R200, note 2). -/
def configureOfBytes : List Byte → Option Call
  | [wh, wl, hh, hl, r, g, b, n] => some (.configure (word16Of wh wl) (word16Of hh hl) (colourOf r g b) n)
  | _ => none

/-- The request that a kind and its body bytes spell; none exactly where the length is not the kind's (R191, R200). -/
def callOfBytes (k : Kind) (body : List Byte) : Option Call :=
  match k with
  | .attach => emptyBody .attach body
  | .detach => emptyBody .detach body
  | .openRegion => (blockOfBytes body).map .openRegion
  | .amend => (blockOfBytes body).map .amend
  | .renew => (tagOfBytes body).map .renew
  | .release => (tagOfBytes body).map .release
  | .lookup => (tagOfBytes body).map .lookup
  | .probe => probeOfBytes body
  | .walkStart => (byteOfBytes body).map .walkStart
  | .walkNext => emptyBody .walkNext body
  | .fetchNotices => emptyBody .fetchNotices body
  | .pin => (blockOfBytes body).map .pin
  | .unpin => (tagOfBytes body).map .unpin
  | .lookupSlot => (byteOfBytes body).map .lookupSlot
  | .setLimits => limitsOfBytes body
  | .suspend => (byteOfBytes body).map .suspend
  | .resume => (byteOfBytes body).map .resume
  | .evict => (byteOfBytes body).map .evict
  | .configure => configureOfBytes body
  | .start => emptyBody .start body
  | .hold => emptyBody .hold body
  | .resumeScan => emptyBody .resumeScan body
  | .stop => emptyBody .stop body
  | .forceCommit => emptyBody .forceCommit body
  | .clearTable => emptyBody .clearTable body
  | .softReset => emptyBody .softReset body
  | .readStatus => emptyBody .readStatus body
  | .fetchAlerts => emptyBody .fetchAlerts body
  | .setAlertMask => (byteOfBytes body).map .setAlertMask

/-- The body bytes of a request (R200). -/
def Call.bytes : Call → List Byte
  | .openRegion f | .amend f | .pin f => blockBytes f
  | .renew t | .release t | .lookup t | .unpin t => word16Bytes t
  | .probe x y => word16Bytes x ++ word16Bytes y
  | .walkStart b | .lookupSlot b | .suspend b | .resume b | .evict b | .setAlertMask b => [b]
  | .setLimits c n l m => [c, n, l, m]
  | .configure w h b g => word16Bytes w ++ word16Bytes h ++ colourBytes b ++ [g]
  | .attach | .detach | .walkNext | .fetchNotices | .start | .hold | .resumeScan | .stop | .forceCommit | .clearTable
  | .softReset | .readStatus | .fetchAlerts => []

/-- The bytes of a whole write: the header (kind, sequence, body length), then the body (R190). -/
def Request.bytes (r : Request) : List Byte :=
  [r.call.kind.code, r.seq, BitVec.ofNat 8 r.call.bytes.length] ++ r.call.bytes

/-- The port and the request of a command that is a request taken by the TC; none for an event of a pin, a port, the link
or the frame path. -/
def Instr.request : Instr → Option (Port × Request)
  | .attach p q => some (p, ⟨q, .attach⟩)
  | .detach p q => some (p, ⟨q, .detach⟩)
  | .openRegion p q b => some (p, ⟨q, .openRegion b⟩)
  | .amend p q b => some (p, ⟨q, .amend b⟩)
  | .renew p q t => some (p, ⟨q, .renew t⟩)
  | .renewAll p q => some (p, ⟨q, .renew 0⟩)
  | .release p q t => some (p, ⟨q, .release t⟩)
  | .pin p q b => some (p, ⟨q, .pin b⟩)
  | .unpin p q t => some (p, ⟨q, .unpin t⟩)
  | .lookup p q t => some (p, ⟨q, .lookup t⟩)
  | .lookupSlot p q k => some (p, ⟨q, .lookupSlot k⟩)
  | .probe p q x y => some (p, ⟨q, .probe x y⟩)
  | .walkStart p q f => some (p, ⟨q, .walkStart f⟩)
  | .walkNext p q => some (p, ⟨q, .walkNext⟩)
  | .fetchNotices p q => some (p, ⟨q, .fetchNotices⟩)
  | .setLimits p q c n l m => some (p, ⟨q, .setLimits c n l m⟩)
  | .suspend p q c => some (p, ⟨q, .suspend c⟩)
  | .resume p q c => some (p, ⟨q, .resume c⟩)
  | .evict p q c => some (p, ⟨q, .evict c⟩)
  | .configure p q w h b g => some (p, ⟨q, .configure w h b g⟩)
  | .start p q => some (p, ⟨q, .start⟩)
  | .hold p q => some (p, ⟨q, .hold⟩)
  | .resumeScan p q => some (p, ⟨q, .resumeScan⟩)
  | .stop p q => some (p, ⟨q, .stop⟩)
  | .forceCommit p q => some (p, ⟨q, .forceCommit⟩)
  | .clearTable p q => some (p, ⟨q, .clearTable⟩)
  | .softReset p q => some (p, ⟨q, .softReset⟩)
  | .readStatus p q => some (p, ⟨q, .readStatus⟩)
  | .fetchAlerts p q => some (p, ⟨q, .fetchAlerts⟩)
  | .setAlertMask p q m => some (p, ⟨q, .setAlertMask m⟩)
  | .vblank | .fstart | .resetN _ | .commit | .leaseLapse _ | .graceRetire _ | .resolveCompletion
  | .planQuery | .lineQuery _ | .bandQuery _ | .unknownQuery _ | .answerSent
  | .selectFall _ | .writeCommand _ | .readCommand _ | .badCommandByte _ _ | .headerFramingCheck _ _ _ _
  | .requestDecision _ _ | .responseSent _ | .selectRise _ | .statusByteSent _ => none

/-- The query that a mixer's bytes spell: PLAN is its code alone, LINE carries y as two bytes, BAND carries i as one, and any
other code is a query of that one byte (R201). A LINE or BAND whose argument is not whole spells nothing yet. -/
def queryOfBytes : List Byte → Option Instr
  | [code] =>
    if code = 0x01#8 then some .planQuery
    else if code = 0x02#8 ∨ code = 0x03#8 then none
    else some (.unknownQuery code)
  | [code, i] => if code = 0x03#8 then some (.bandQuery i) else none
  | [code, hi, lo] => if code = 0x02#8 then some (.lineQuery (word16Of hi lo)) else none
  | _ => none

/-- The command that a table word spells. spec/opcode_table.json gives no row any bits (every row's fields are empty),
so no word spells one. -/
def decodeTableWord (_nbits _w : Nat) : Option Instr := none

end Sys2Proof
end

