-- ==== Sys2Proof/Config.lean ====
section
/-! DEFINITION. The fixed capacities of the part, and the two values the spec leaves open. -/

namespace Sys2Proof.Config

/-- The Staging Pool holds up to 32 entries (R42). -/
def poolCapacity : Nat := 32

/-- A port's request buffer holds up to 4 requests (R188). -/
def bufferCapacity : Nat := 4

/-- A port's response queue holds up to 4 responses (R188). -/
def queueCapacity : Nat := 4

/-- At most 8 pinned regions are non-FREE (R17, R64). -/
def pinLimit : Nat := 8

/-- A client's quota is at most 32 (R30). -/
def quotaMax : Nat := 32

/-- The four quotas sum to at most 56 (R30). -/
def quotaSumMax : Nat := 56

/-- A layer is 0 to 15 (R18). -/
def layerMax : Nat := 15

/-- A rank is 0 to 7 (R18). -/
def rankMax : Nat := 7

/-- A stream is 0 to 3 (R5). -/
def streamMax : Nat := 3

/-- W and H are at least 16 (R156). -/
def panelMin : Nat := 16

/-- W and H are at most 4096 (R156). -/
def panelMax : Nat := 4096

/-- The grace length is 0 to 15 (R156). -/
def graceMax : Nat := 15

/-- A plan holds at most 128 bands (R114). -/
def bandLimit : Nat := 128

/-- A plan holds at most 1024 spans over all its bands (R114). -/
def spanLimit : Nat := 1024

/-- FETCH_NOTICES delivers at most 8 entries (R166). -/
def fetchLimit : Nat := 8

/-- A walk request returns at most 4 reports (R180). -/
def walkLimit : Nat := 4

/-- DESIGN CHOICE (log 11), safe: the byte that stands in a region report at an offset whose field is absent, the notices of a
FREE slot among them (R68). R200 lays out the record and does not say what such a byte holds. First argument: the slot
reported. Second: the offset. -/
opaque absentReportByte : Nat → Nat → BitVec 8

/-- DESIGN CHOICE (log 23), safe: whether the session state that a LOOKUP reports is sent as a body of one byte. R26 has it
reported in LOOKUP's session fields, and neither R67 nor R200 gives those fields a place in the response. -/
opaque lookupSendsState : Bool

end Sys2Proof.Config
end

