-- ==== Sys2Proof/Machine/State.lean ====
section
/-! DEFINITION. The state of the PL64 as plain data: every block of spec/00_scope.md with what it holds, the messages its
queues hold, and the state right after RESET_N. -/

namespace Sys2Proof.Machine

/-! ### Things held once per session -/

/-- One value for each of C0 to C3 and SUP, or for each of the five ports. -/
structure PerSession (α : Type) where
  clients : Vector α 4
  sup     : α
  deriving DecidableEq, Repr

/-- The value of one session. -/
def PerSession.get {α : Type} (p : PerSession α) : Session → α
  | .client n => p.clients[n]
  | .sup => p.sup

/-- The five values with one session's replaced. -/
def PerSession.set {α : Type} (p : PerSession α) (x : Session) (v : α) : PerSession α :=
  match x with
  | .client n => { p with clients := p.clients.set n v }
  | .sup => { p with sup := v }

/-- Five values, each made from its session. -/
def PerSession.make {α : Type} (f : Session → α) : PerSession α :=
  { clients := Vector.ofFn (fun n => f (.client n)), sup := f .sup }

/-! ### Regions (chapter 1) -/

/-- The states of a region. FREE is the slot without a record (R2, R11 to R15). -/
inductive RegionState where
  | stagedNew
  | live
  | lapsed
  | retiring
  deriving DecidableEq, Repr

/-- What a region shows (R5). -/
inductive Fill where
  | source
  | solid
  deriving DecidableEq, Repr

/-- How a region takes part in plans (R7). -/
inductive Presentation where
  | fill
  | fallback
  | none
  deriving DecidableEq, Repr

/-- A half-open rectangle: the pixels with x0 ≤ x < x1 and y0 ≤ y < y1 (R4). -/
structure Rect where
  x0 : Nat
  y0 : Nat
  x1 : Nat
  y1 : Nat
  deriving DecidableEq, Repr

/-- The record of a non-FREE slot (R2). The class follows the owner (R3) and the staged reference is the pool entry of the
slot (R9), so neither is held twice. -/
structure Region where
  state        : RegionState
  owner        : Session
  tag          : Word16
  rect         : Option Rect
  layer        : Option Nat
  rank         : Option Nat
  fill         : Option Fill
  stream       : Option Nat
  colour       : Option Colour
  fallback     : Option Colour
  lease        : Option Nat
  remaining    : Option Nat
  graceLeft    : Option Nat
  presentation : Presentation
  awaiting     : Bool
  deriving DecidableEq, Repr

/-! ### Tag Maps and notices (chapters 1 and 8) -/

/-- The value of a VISIBILITY notice (R163). -/
inductive Visibility where
  | shown
  | hidden
  deriving DecidableEq, Repr

/-- The notice set of a Tag Map entry (R163). -/
structure NoticeSet where
  applied    : Bool
  lapsed     : Bool
  retired    : Bool
  visibility : Option Visibility
  deriving DecidableEq, Repr

/-- The empty notice set (R163). -/
def NoticeSet.empty : NoticeSet := { applied := false, lapsed := false, retired := false, visibility := none }

/-- A Tag Map entry: the tag, the slot of the region it names or absent, and the notice set (R19). -/
structure TagEntry where
  tag     : Word16
  slot    : Option Slot
  notices : NoticeSet
  deriving DecidableEq, Repr

/-! ### The Staging Pool (chapter 3) -/

/-- The kinds of a pool entry (R43). -/
inductive EntryKind where
  | new
  | pin
  | amend
  | revive
  | release
  | unpin
  deriving DecidableEq, Repr

/-- The three staged values of the fallback field (R43). -/
inductive StagedFallback where
  | untouched
  | set (colour : Colour)
  | remove
  deriving DecidableEq, Repr

/-- The staged field values of a pool entry, each present or not (R43). -/
structure StagedFields where
  rect     : Option Rect
  layer    : Option Nat
  rank     : Option Nat
  lease    : Option Nat
  fill     : Option Fill
  stream   : Option Nat
  colour   : Option Colour
  fallback : StagedFallback
  deriving DecidableEq, Repr

/-- No staged field, as REVIVE, RELEASE and UNPIN entries carry (R43). -/
def StagedFields.empty : StagedFields :=
  { rect := none, layer := none, rank := none, lease := none, fill := none, stream := none, colour := none,
    fallback := .untouched }

/-- A staged change: its target slot, its kind and its fields (R43). -/
structure PoolEntry where
  slot   : Slot
  kind   : EntryKind
  fields : StagedFields
  deriving DecidableEq, Repr

/-! ### Sessions and walk cursors (chapters 2 and 9) -/

/-- The four states of a session (R26). -/
inductive SessionState where
  | detached
  | attached
  | suspended
  | draining
  deriving DecidableEq, Repr

/-- The change of a session that the next commit applies (R34); `noChange` is the spec's none. -/
inductive PendingChange where
  | noChange
  | suspend
  | resume
  | drain
  deriving DecidableEq, Repr

/-- A set of region states, as a walk filter names it (R177). -/
structure StateFilter where
  stagedNew : Bool
  live      : Bool
  lapsed    : Bool
  retiring  : Bool
  deriving DecidableEq, Repr

/-- A present walk cursor; its key is a tag for C0 to C3 and a slot number for SUP (R177). -/
structure Cursor where
  key        : Nat
  filter     : StateFilter
  startFrame : Word16
  changed    : Bool
  deriving DecidableEq, Repr

/-- A session record (R24). -/
structure SessionRecord where
  state    : SessionState
  quota    : Nat
  ceiling  : Nat
  leaseMax : Nat
  pending  : PendingChange
  evicted  : Bool
  cursor   : Option Cursor
  deriving DecidableEq, Repr

/-! ### Scan Control (chapter 7) -/

/-- The scan states (R143). -/
inductive ScanState where
  | stopped
  | priming
  | running
  | hold
  deriving DecidableEq, Repr

/-- The two sync lines (R152). -/
inductive SyncLine where
  | vblank
  | fstart
  deriving DecidableEq, Repr

/-- The fields of Scan Control (R141). -/
structure ScanControl where
  state       : ScanState
  frame       : Word16
  expect      : SyncLine
  width       : Nat
  height      : Nat
  background  : Colour
  grace       : Nat
  firstCommit : Bool
  deriving DecidableEq, Repr

/-! ### Plans and the Resolver (chapters 5 and 6) -/

/-- The kinds of a span's content (R105). -/
inductive SpanKind where
  | background
  | source
  | solid
  deriving DecidableEq, Repr

/-- The content of a pixel or span: the five values of R105. -/
structure Content where
  kind   : SpanKind
  owner  : Option Session
  slot   : Option Slot
  stream : Option Nat
  colour : Option Colour
  deriving DecidableEq, Repr

/-- A span: the columns x0 ≤ x < x1 and their content (R108). -/
structure Span where
  x0      : Nat
  x1      : Nat
  content : Content
  deriving DecidableEq, Repr

/-- A band: the lines y0 ≤ y < y1 and their spans (R108). -/
structure Band where
  y0    : Nat
  y1    : Nat
  spans : List Span
  deriving DecidableEq, Repr

/-- The status of a plan (R118). -/
inductive PlanStatus where
  | full
  | reduced
  deriving DecidableEq, Repr

/-- A complete plan (R108). -/
structure Plan where
  epoch  : Word16
  status : PlanStatus
  width  : Nat
  height : Nat
  bands  : List Band
  deriving DecidableEq, Repr

/-- A candidate of a resolve with its rectangle, its stacking level (the higher is above), its class and the content it
gives its pixels (R99, R104, R105). -/
structure Candidate where
  rect    : Rect
  level   : Nat
  pinned  : Bool
  content : Content
  deriving DecidableEq, Repr

/-- What a resolve read at its start (R99, R100). -/
structure ResolveJob where
  epoch      : Word16
  width      : Nat
  height     : Nat
  background : Colour
  candidates : List Candidate
  deriving DecidableEq, Repr

/-- The Resolver's three states. RESOLVING carries what the resolve reads and READY carries the complete back plan, so that
the state fixes what the back plan holds (R97). -/
inductive Resolver where
  | idle
  | resolving (job : ResolveJob)
  | ready (back : Plan)
  deriving DecidableEq, Repr

/-! ### The Alert Set (chapter 8) -/

/-- One flag for each of the seven alert kinds (R171). -/
structure AlertFlags where
  planLate     : Bool
  planReduced  : Bool
  syncOrder    : Bool
  stageFull    : Bool
  clientLapsed : Bool
  framing      : Bool
  pinNotice    : Bool
  deriving DecidableEq, Repr

/-- The Alert Set: the pending kinds, the client set of CLIENT_LAPSED, the port set of FRAMING, and the mask (R171). -/
structure AlertSet where
  pending : AlertFlags
  clients : Vector Bool 4
  ports   : PerSession Bool
  mask    : AlertFlags
  deriving DecidableEq, Repr

/-- The pending set after a reset: empty, with empty payloads (R171). -/
def AlertSet.cleared (a : AlertSet) : AlertSet :=
  { a with
    pending := { planLate := false, planReduced := false, syncOrder := false, stageFull := false,
                 clientLapsed := false, framing := false, pinNotice := false }
    clients := Vector.replicate 4 false
    ports := PerSession.make (fun _ => false) }

/-! ### Responses (chapter 10) -/

/-- The outcome codes of R200. -/
inductive ResultCode where
  | ok | already | badRequest | denied | notAttached | suspended | draining | notConfigured
  | tagInUse | noSuchTag | quota | outOfBounds | layerDenied | overlap | stageFull | lapsed
  | retiring | rankInUse | pinLimit | scanState | sessionActive | limitsConflict | geometryConflict | noCursor
  deriving DecidableEq, Repr

/-- The session report (R24, note 3). -/
structure SessionReport where
  session   : Session
  state     : SessionState
  pending   : PendingChange
  quota     : Nat
  ceiling   : Nat
  leaseMax  : Nat
  evicted   : Bool
  effective : Option Word16
  deriving DecidableEq, Repr

/-- The Resolver state as a report or the status record gives it (R144, R199). -/
inductive ResolverPhase where
  | idle
  | resolving
  | ready
  deriving DecidableEq, Repr

/-- The scan report (R144). -/
structure ScanReport where
  state    : ScanState
  frame    : Word16
  expect   : SyncLine
  resolver : ResolverPhase
  deriving DecidableEq, Repr

/-- The commit summary (R94). -/
structure CommitSummary where
  frame          : Word16
  applied        : Nat
  sessionChanges : Nat
  freed          : Nat
  material       : Bool
  deriving DecidableEq, Repr

/-- What a region report says of a region: the fields of its record but presentation, its staged kind, and the notice set
of its Tag Map entry (R67). -/
structure ReportedRegion where
  tag       : Word16
  state     : RegionState
  owner     : Session
  rect      : Option Rect
  fill      : Option Fill
  layer     : Option Nat
  rank      : Option Nat
  stream    : Option Nat
  colour    : Option Colour
  fallback  : Option Colour
  lease     : Option Nat
  remaining : Option Nat
  graceLeft : Option Nat
  staged    : Option EntryKind
  awaiting  : Bool
  notices   : NoticeSet
  deriving DecidableEq, Repr

/-- A region report: a slot, and its region where the slot is not FREE (R67, R68). -/
structure RegionReport where
  slot   : Slot
  region : Option ReportedRegion
  deriving DecidableEq, Repr

/-- What PROBE reports of the pixel when a front plan is installed (R139). -/
structure ProbeReport where
  epoch  : Word16
  status : PlanStatus
  y0     : Nat
  y1     : Nat
  x0     : Nat
  x1     : Nat
  kind   : SpanKind
  owner  : Option Session
  slot   : Option Slot
  tag    : Option Word16
  stale  : Bool
  deriving DecidableEq, Repr

/-- One row of the status record (R199). -/
structure SessionRow where
  state       : SessionState
  pending     : PendingChange
  quota       : Nat
  ceiling     : Nat
  leaseMax    : Nat
  evicted     : Bool
  regionCount : Nat
  entryCount  : Nat
  deriving DecidableEq, Repr

/-- The status record (R199). -/
structure StatusRecord where
  state      : ScanState
  frame      : Word16
  expect     : SyncLine
  resolver   : ResolverPhase
  front      : Option (Word16 × PlanStatus)
  occupancy  : Nat
  pinned     : Nat
  width      : Nat
  height     : Nat
  background : Colour
  grace      : Nat
  rows       : PerSession SessionRow
  deriving DecidableEq, Repr

/-- The action a RENEW reports (R59). -/
inductive RenewAction where
  | renewed
  | noEffect
  | reviveStaged
  deriving DecidableEq, Repr

/-- The disposition a RELEASE or UNPIN reports (R62, R66). -/
inductive Disposition where
  | freed
  | staged
  deriving DecidableEq, Repr

/-- The body of a response, one form for each request that has one (R200). -/
inductive Body where
  | empty
  | session (report : SessionReport)
  | departure (report : SessionReport) (freed retiring : Nat)
  | opened (slot : Slot) (lease : Nat) (effective : Option Word16)
  | amended (slot : Slot) (lease : Option Nat) (merged : Bool) (effective : Option Word16)
  | renewed (slot : Slot) (action : RenewAction) (remaining : Option Nat) (effective : Option Word16)
  | renewedAll (renewed revived : Nat) (incomplete : Bool) (effective : Option Word16)
  | released (slot : Slot) (disposition : Disposition) (effective : Option Word16)
  | pinned (slot : Slot) (effective : Option Word16)
  | looked (state : SessionState)
  | probe (report : Option ProbeReport)
  | walk (count : Nat) (more changed : Bool) (startFrame : Word16)
  | notices (count : Nat) (more : Bool)
  | configuration (width height : Nat) (background : Colour) (grace : Nat)
  | conflict (slot : Slot)
  | scan (report : ScanReport)
  | committed (summary : CommitSummary)
  | cleared (report : ScanReport) (regions entries : Nat)
  | status (record : StatusRecord)
  | alerts (pending : AlertFlags) (clients : Vector Bool 4) (ports : PerSession Bool) (mask : AlertFlags)
      (outstanding : Bool)
  | alertMask (mask pending : AlertFlags)
  deriving DecidableEq, Repr

/-- A record of a response: a region report or a notice entry (R200). -/
inductive Record where
  | region (report : RegionReport)
  | notice (entry : TagEntry)
  deriving DecidableEq, Repr

/-- What a request's rule gives back: the outcome, the body and the records. -/
structure Reply where
  code    : ResultCode
  body    : Body
  records : List Record
  deriving DecidableEq, Repr

/-- A response as a port's queue holds it: the kind and sequence of the request, and the reply (R195). -/
structure Response where
  kind  : Kind
  seq   : Byte
  reply : Reply
  deriving DecidableEq, Repr

/-! ### Ports (chapter 10) -/

/-- The status byte of a write (R190, R191). -/
inductive WriteStatus where
  | accepted
  | full
  | framing
  deriving DecidableEq, Repr

/-- The transaction state of a port, with what the port holds in it: in HEADER the header bytes received so far; in BODY the
header (the kind and the sequence, the length being the kind's own) and the body bytes received so far; in STATUS the byte to be driven, in SENDING the response the read fixed and whether that response is still the
head of the queue (R188, R194). A port is selected exactly when its state is not IDLE. -/
inductive Transaction where
  | idle
  | command
  | header (received : List Byte)
  | body (kind : Kind) (seq : Byte) (received : List Byte)
  | status (status : WriteStatus)
  | sending (response : Response) (queued : Bool)
  | ignoring
  deriving DecidableEq, Repr

/-- A port: its request buffer, its response queue and its transaction state (R188). -/
structure PortState where
  buffer      : List Request
  responses   : List Response
  transaction : Transaction
  deriving DecidableEq, Repr

/-! ### The scan link (chapter 6) -/

/-- An answer on the scan link, fixed when its query is taken; `code` is the query code echoed (R134, R201). -/
inductive Answer where
  | noPlan (code : Byte)
  | range (code : Byte)
  | plan (epoch : Word16) (status : PlanStatus) (bandCount width height : Nat)
  | band (code : Byte) (epoch : Word16) (index : Nat) (band : Band)
  deriving DecidableEq, Repr

/-- The Scan Link interface: IDLE, or ANSWERING with the answer in progress and the codes of the refused queries to which a
LINK_BUSY answer is owed, in the order they arrived (R133). -/
inductive Link where
  | idle
  | answering (answer : Answer) (owed : List Byte)
  deriving DecidableEq, Repr

/-! ### The whole part -/

/-- The state of the PL64. `pending` is the model's queue of commands that wait to happen; every other field is the
spec's. -/
structure State where
  table      : Vector (Option Region) 64
  tagMaps    : PerSession (List TagEntry)
  pool       : List PoolEntry
  sessions   : PerSession SessionRecord
  scan       : ScanControl
  resolver   : Resolver
  front      : Option Plan
  shown      : Vector Bool 64
  link       : Link
  alerts     : AlertSet
  ports      : PerSession PortState
  lastServed : Client
  commitsDue : List Word16
  resetLow   : Bool
  pending    : List Instr
  deriving DecidableEq, Repr

/-- Why a command could fault: no reason. The spec gives the block no fault, and no meaning of this model raises one. -/
inductive Fault where
  deriving DecidableEq, Repr

/-- Why a command could be refused. -/
inductive Refusal where
  /-- Raised by `exec` for a row of the table that has no meaning yet. Safe: the run stops. No arm raises it now. -/
  | notModelled (mnemonic : String)
  deriving DecidableEq, Repr

/-! ### The state right after RESET_N -/

/-- The session record of a client after RESET_N (R41). -/
def SessionRecord.reset : SessionRecord :=
  { state := .detached, quota := 0, ceiling := 0, leaseMax := 255, pending := .noChange, evicted := false,
    cursor := none }

/-- The session record of SUP: ATTACHED at all times, with the limits that R25 and R199 report for it (R24, R41). -/
def SessionRecord.supReset : SessionRecord :=
  { SessionRecord.reset with state := .attached, quota := 8 }

/-- A port after RESET_N with its select high (R188). -/
def PortState.reset : PortState := { buffer := [], responses := [], transaction := .idle }

/-- Scan Control after RESET_N (R142). -/
def ScanControl.reset : ScanControl :=
  { state := .stopped, frame := 0, expect := .vblank, width := 0, height := 0, background := 0, grace := 4,
    firstCommit := false }

/-- The Alert Set after RESET_N: nothing pending, every kind enabled (R171). -/
def AlertSet.reset : AlertSet :=
  AlertSet.cleared
    { pending := { planLate := false, planReduced := false, syncOrder := false, stageFull := false,
                   clientLapsed := false, framing := false, pinNotice := false }
      clients := Vector.replicate 4 false
      ports := PerSession.make (fun _ => false)
      mask := { planLate := true, planReduced := true, syncOrder := true, stageFull := true, clientLapsed := true,
                framing := true, pinNotice := true } }

/-- The part right after RESET_N has risen, with every select high (R22, R41, R46, R97, R122, R133, R142, R171, R188,
R196). -/
def State.reset : State :=
  { table := Vector.replicate 64 none
    tagMaps := PerSession.make (fun _ => [])
    pool := []
    sessions := { clients := Vector.replicate 4 SessionRecord.reset, sup := SessionRecord.supReset }
    scan := ScanControl.reset
    resolver := .idle
    front := none
    shown := Vector.replicate 64 false
    link := .idle
    alerts := AlertSet.reset
    ports := PerSession.make (fun _ => PortState.reset)
    lastServed := 3
    commitsDue := []
    resetLow := false
    pending := [] }

end Sys2Proof.Machine
end

