-- ==== Sys2Proof/Machine/Flags.lean ====
section
/-! DEFINITION. The flags of the part: notice sets, alerts, and the output lines that follow them (chapter 8). -/

namespace Sys2Proof.Machine

/-! ### Notice sets -/

/-- A notice set is empty when the three flags are clear and VISIBILITY is absent (R163). -/
def NoticeSet.isEmpty (n : NoticeSet) : Bool :=
  !n.applied && !n.lapsed && !n.retired && n.visibility.isNone

/-- APPLIED is set; a flag already set stays set (R128, R164). -/
def NoticeSet.withApplied (n : NoticeSet) : NoticeSet := { n with applied := true }

/-- LAPSED is set (R81, R164). -/
def NoticeSet.withLapsed (n : NoticeSet) : NoticeSet := { n with lapsed := true }

/-- RETIRED is set (R82, R164). -/
def NoticeSet.withRetired (n : NoticeSet) : NoticeSet := { n with retired := true }

/-- VISIBILITY takes the new value, replacing a pending one (R127, R164). -/
def NoticeSet.withVisibility (n : NoticeSet) (v : Visibility) : NoticeSet := { n with visibility := some v }

/-! ### Alerts -/

/-- An alert as the happening that owns its cause raises it, with its payload where the kind carries one (R171, R172). -/
inductive Alert where
  | planLate
  | planReduced
  | syncOrder
  | stageFull
  | clientLapsed (client : Client)
  | framing (port : Port)
  | pinNotice
  deriving DecidableEq, Repr

/-- A raise joins the pending set; a kind already pending stays pending once and payloads are united (R172). -/
def AlertSet.raise (a : AlertSet) : Alert → AlertSet
  | .planLate => { a with pending := { a.pending with planLate := true } }
  | .planReduced => { a with pending := { a.pending with planReduced := true } }
  | .syncOrder => { a with pending := { a.pending with syncOrder := true } }
  | .stageFull => { a with pending := { a.pending with stageFull := true } }
  | .clientLapsed n =>
    { a with pending := { a.pending with clientLapsed := true }, clients := a.clients.set n true }
  | .framing p => { a with pending := { a.pending with framing := true }, ports := a.ports.set p true }
  | .pinNotice => { a with pending := { a.pending with pinNotice := true } }

/-- An alert raised into the part's Alert Set (R172). -/
def State.raise (s : State) (a : Alert) : State := { s with alerts := s.alerts.raise a }

/-- An alert raised when a condition holds. -/
def State.raiseIf (s : State) (b : Bool) (a : Alert) : State := if b then s.raise a else s

/-- Is some kind set in both? -/
def AlertFlags.meets (a b : AlertFlags) : Bool :=
  (a.planLate && b.planLate) || (a.planReduced && b.planReduced) || (a.syncOrder && b.syncOrder)
    || (a.stageFull && b.stageFull) || (a.clientLapsed && b.clientLapsed) || (a.framing && b.framing)
    || (a.pinNotice && b.pinNotice)

/-! ### Lines -/

/-- Does a Tag Map hold an entry with a non-empty notice set? -/
def mapHasNotices (m : List TagEntry) : Bool := m.any (fun e => !e.notices.isEmpty)

/-- ATNn is asserted exactly while client n's Tag Map holds a non-empty notice set (R170), and driven low while RESET_N is low
(R202). -/
def State.attention (s : State) (n : Client) : Bool := !s.resetLow && mapHasNotices (s.tagMaps.get (.client n))

/-- ALERT is asserted while an enabled kind is pending (R174), and driven low while RESET_N is low (R202). -/
def State.alertLine (s : State) : Bool := !s.resetLow && s.alerts.pending.meets s.alerts.mask

/-- Does the SUP Tag Map hold a non-empty notice set? PIN_NOTICE stands for this (R173). -/
def State.supHasNotices (s : State) : Bool := mapHasNotices (s.tagMaps.get .sup)

end Sys2Proof.Machine
end

