-- ==== Sys2Proof/Machine/Ops.lean ====
section
/-! DEFINITION. The named operations the meanings share: the Region Table, the Tag Maps, the Staging Pool, prospective
geometry, the reports, the response queues and the TC arbiter. -/

namespace Sys2Proof.Machine

/-- What a command answers. -/
abbrev Result := Host.Outcome State Fault Refusal

/-- The clients in order C0 to C3. -/
def clients : List Client := [0, 1, 2, 3]

/-- Every slot in ascending order (R1). -/
def slots : List Slot := List.finRange 64

/-! ### The Region Table (chapter 1) -/

/-- Is the region PINNED? The class follows the owner (R3). -/
def Region.pinned (r : Region) : Bool := r.owner == .sup

/-- The record with its slot made to hold it. -/
def State.putRegion (s : State) (k : Slot) (r : Region) : State := { s with table := s.table.set k (some r) }

/-- The slot becomes FREE: its record goes and its shown mark is cleared (R2, R123). -/
def State.freeSlot (s : State) (k : Slot) : State :=
  { s with table := s.table.set k none, shown := s.shown.set k false }

/-- The lowest-numbered FREE slot (R17). -/
def State.lowestFree (s : State) : Option Slot := slots.find? (fun k => s.table[k].isNone)

/-- The slots that hold a region of which `f` holds. -/
def State.slotsWhere (s : State) (f : Region → Bool) : List Slot := slots.filter (fun k => s.table[k].any f)

/-- How many non-FREE regions satisfy `f`. -/
def State.countRegions (s : State) (f : Region → Bool) : Nat := (s.slotsWhere f).length

/-- The pinned count: non-FREE PINNED regions, STAGED_NEW and RETIRING included (R17). -/
def State.pinnedCount (s : State) : Nat := s.countRegions Region.pinned

/-- The region count of a session (R17). -/
def State.regionCount (s : State) (x : Session) : Nat := s.countRegions (fun r => r.owner == x)

/-! ### Tag Maps (R19 to R21) -/

/-- The entry of a tag. -/
def findTag (m : List TagEntry) (t : Word16) : Option TagEntry := m.find? (fun e => e.tag == t)

/-- An entry inserted in its place by tag (R19). -/
def insertTag (e : TagEntry) : List TagEntry → List TagEntry
  | [] => [e]
  | f :: m => if e.tag < f.tag then e :: f :: m else f :: insertTag e m

/-- The entries that do not name the slot: the entry of a freed region is removed with its notices (R19). -/
def dropSlot (m : List TagEntry) (k : Slot) : List TagEntry := m.filter (fun e => e.slot != some k)

/-- The Tag Maps with one session's map changed. -/
def State.mapTags (s : State) (x : Session) (f : List TagEntry → List TagEntry) : State :=
  { s with tagMaps := s.tagMaps.set x (f (s.tagMaps.get x)) }

/-- The notice set of the entry that names the slot in the map of the session; empty where no entry does. -/
def State.noticesAt (s : State) (x : Session) (k : Slot) : NoticeSet :=
  match (s.tagMaps.get x).find? (fun e => e.slot == some k) with
  | some e => e.notices
  | none => NoticeSet.empty

/-- A slot freed together with its region's Tag Map entry (R19, R21). -/
def State.freeRegion (s : State) (k : Slot) (owner : Session) : State :=
  (s.freeSlot k).mapTags owner (fun m => dropSlot m k)

/-- The region a request names by tag in its own Tag Map, or the outcome that refuses the tag (R49). -/
def State.regionByTag (s : State) (x : Session) (t : Word16) : Except ResultCode (Slot × Region) :=
  if t = 0 then .error .badRequest
  else
    match findTag (s.tagMaps.get x) t with
    | none => .error .noSuchTag
    | some e =>
      match e.slot with
      | none => .error .noSuchTag
      | some k =>
        match s.table[k] with
        | none => .error .noSuchTag
        | some r => .ok (k, r)

/-! ### The Staging Pool (R42 to R47) -/

/-- The slot's one entry (R9, R42). -/
def State.entryFor (s : State) (k : Slot) : Option PoolEntry := s.pool.find? (fun e => e.slot == k)

/-- Does the pool hold 32 entries (R44)? -/
def State.poolFull (s : State) : Bool := Config.poolCapacity ≤ s.pool.length

/-- An entry appended at the end of the pool (R42). -/
def State.stage (s : State) (e : PoolEntry) : State := { s with pool := s.pool ++ [e] }

/-- The slot's entry changed where it stands (R42, R45). -/
def State.restage (s : State) (k : Slot) (f : PoolEntry → PoolEntry) : State :=
  { s with pool := s.pool.map (fun e => if e.slot = k then f e else e) }

/-- The slot's entry removed without being applied; the entries behind it close up (R42, R46). -/
def State.unstage (s : State) (k : Slot) : State := { s with pool := s.pool.filter (fun e => e.slot != k) }

/-- An entry turned into a RELEASE or UNPIN loses its staged fields (R43 note 4, R45). -/
def PoolEntry.become (kind : EntryKind) (e : PoolEntry) : PoolEntry :=
  { e with kind := kind, fields := StagedFields.empty }

/-- The fields of an AMEND merged into staged fields: each field carried replaces, and fill, stream and colour are one unit;
a fallback remove merged into a NEW entry leaves the entry with no fallback (R47). -/
def StagedFields.merge (kind : EntryKind) (old new : StagedFields) : StagedFields :=
  { rect := new.rect.or old.rect
    layer := new.layer.or old.layer
    rank := old.rank
    lease := new.lease.or old.lease
    fill := new.fill.or old.fill
    stream :=
      match new.fill with
      | some .solid => none
      | some .source => new.stream
      | none => new.stream.or old.stream
    colour :=
      match new.fill with
      | some .solid => new.colour
      | some .source => none
      | none => new.colour.or old.colour
    fallback :=
      match new.fallback with
      | .untouched => old.fallback
      | .set c => .set c
      | .remove => if kind = .new then .untouched else .remove }

/-! ### Prospective geometry and overlap (R4, R16, R54) -/

/-- The prospective rectangle of the region in a slot (R4). -/
def State.prospectiveRect (s : State) (k : Slot) (r : Region) : Option Rect :=
  ((s.entryFor k).bind (fun e => e.fields.rect)).or r.rect

/-- The prospective layer of the region in a slot (R4). -/
def State.prospectiveLayer (s : State) (k : Slot) (r : Region) : Option Nat :=
  ((s.entryFor k).bind (fun e => e.fields.layer)).or r.layer

/-- The prospective fill of the region in a slot (R56). -/
def State.prospectiveFill (s : State) (k : Slot) (r : Region) : Option Fill :=
  ((s.entryFor k).bind (fun e => e.fields.fill)).or r.fill

/-- Do two rectangles have a pixel in common (Conventions, Coordinates)? -/
def Rect.overlaps (a b : Rect) : Bool :=
  decide (a.x0 < b.x1) && decide (b.x0 < a.x1) && decide (a.y0 < b.y1) && decide (b.y0 < a.y1)

/-- Is the rectangle non-empty and within a panel of the width and height (R51)? -/
def Rect.within (a : Rect) (w h : Nat) : Bool :=
  decide (a.x0 < a.x1) && decide (a.y0 < a.y1) && decide (a.x1 ≤ w) && decide (a.y1 ≤ h)

/-- A region that reserves its prospective geometry: a CLIENT region that is STAGED_NEW, LIVE or LAPSED (R16). -/
def Region.reserves (r : Region) : Bool := !r.pinned && decide (r.state ≠ .retiring)

/-- Does a claim of the rectangle on the layer meet the prospective rectangle of a reserving region on that layer, other
than the region in the slot `self` (R16, R54)? -/
def State.claimOverlaps (s : State) (self : Option Slot) (rect : Rect) (layer : Nat) : Bool :=
  slots.any (fun k =>
    decide (self ≠ some k) &&
      match s.table[k] with
      | none => false
      | some r =>
        r.reserves && decide (s.prospectiveLayer k r = some layer) &&
          match s.prospectiveRect k r with
          | none => false
          | some q => rect.overlaps q)

/-! ### Scan state, frames and reports -/

/-- Is the geometry configured (R141 note 1)? -/
def State.configured (s : State) : Bool := decide (s.scan.width ≠ 0) && decide (s.scan.height ≠ 0)

/-- The effective frame: the frame number the next commit will carry, present in PRIMING and RUNNING (R50, R141 note 3). -/
def State.effectiveFrame (s : State) : Option Word16 :=
  match s.scan.state with
  | .priming | .running => some (s.scan.frame + 1)
  | .stopped | .hold => none

/-- The Resolver state as a report gives it. -/
def Resolver.phase : Resolver → ResolverPhase
  | .idle => .idle
  | .resolving _ => .resolving
  | .ready _ => .ready

/-- The scan report (R144). -/
def State.scanReport (s : State) : ScanReport :=
  { state := s.scan.state, frame := s.scan.frame, expect := s.scan.expect, resolver := s.resolver.phase }

/-- The session report of a session (R24 note 3). -/
def State.sessionReport (s : State) (x : Session) : SessionReport :=
  let r := s.sessions.get x
  { session := x, state := r.state, pending := r.pending, quota := r.quota, ceiling := r.ceiling, leaseMax := r.leaseMax,
    evicted := r.evicted, effective := s.effectiveFrame }

/-- A session's record changed. -/
def State.mapSession (s : State) (x : Session) (f : SessionRecord → SessionRecord) : State :=
  { s with sessions := s.sessions.set x (f (s.sessions.get x)) }

/-- The region report of a slot (R67, R68). -/
def State.regionReport (s : State) (k : Slot) : RegionReport :=
  { slot := k
    region :=
      s.table[k].map (fun r =>
        { tag := r.tag, state := r.state, owner := r.owner, rect := r.rect, fill := r.fill, layer := r.layer,
          rank := r.rank, stream := r.stream, colour := r.colour, fallback := r.fallback, lease := r.lease,
          remaining := r.remaining, graceLeft := r.graceLeft, staged := (s.entryFor k).map (fun e => e.kind),
          awaiting := r.awaiting, notices := s.noticesAt r.owner k }) }

/-! ### The session-state check (R27) -/

/-- What a client request is, for the session-state check (R27). -/
inductive Access where
  | change
  | read
  | fetch
  deriving DecidableEq, Repr

/-- The outcome that refuses a client request of the access in the session state; none where it is taken (R27). -/
def Access.refusal : Access → SessionState → Option ResultCode
  | _, .attached => none
  | _, .detached => some .notAttached
  | .change, .suspended => some .suspended
  | .read, .suspended => none
  | .fetch, .suspended => none
  | .change, .draining => some .draining
  | .read, .draining => some .draining
  | .fetch, .draining => none

/-- The session-state check of a request from a port: SUP's requests always pass (R27). -/
def State.sessionRefusal (s : State) (x : Session) (a : Access) : Option ResultCode :=
  match x with
  | .sup => none
  | .client _ => a.refusal (s.sessions.get x).state

/-! ### Replies -/

/-- A refused request: the outcome with an empty body, and no change (R50). -/
def refuse (s : State) (c : ResultCode) : State × Reply := (s, { code := c, body := .empty, records := [] })

/-- A request refused for want of pool space raises STAGE_FULL (R44). -/
def refuseFull (s : State) : State × Reply := refuse (s.raise .stageFull) .stageFull

/-- An accepted request: the state it leaves and the body of its OK response. -/
def accept (s : State) (b : Body) : State × Reply := (s, { code := .ok, body := b, records := [] })

/-- An accepted request whose response carries records. -/
def acceptWith (s : State) (b : Body) (rs : List Record) : State × Reply :=
  (s, { code := .ok, body := b, records := rs })

/-! ### Ports and the TC arbiter (R188, R195, R196, R198) -/

/-- The supervisor-only kinds (R198). -/
def supervisorOnly : Kind → Bool
  | .attach | .detach | .openRegion | .amend | .renew | .release | .lookup | .probe | .walkStart | .walkNext
  | .fetchNotices => false
  | .pin | .unpin | .lookupSlot | .setLimits | .suspend | .resume | .evict | .configure | .start | .hold | .resumeScan
  | .stop | .forceCommit | .clearTable | .softReset | .readStatus | .fetchAlerts | .setAlertMask => true

/-- A port is eligible when its buffer holds a request and its queue holds fewer than 4 responses (R196). -/
def PortState.eligible (p : PortState) : Bool :=
  !p.buffer.isEmpty && decide (p.responses.length < Config.queueCapacity)

/-- The client ports in the order the arbiter looks at them, beginning after the last client port served (R196). -/
def rotation (last : Client) : List Client := [last + 1, last + 2, last + 3, last]

/-- The port the arbiter chooses: SP if eligible, else the first eligible client port in rotation; none while a commit
waits for the TC (R69, R196) or RESET_N is low (R202). -/
def State.chosenPort (s : State) : Option Port :=
  if !s.commitsDue.isEmpty || s.resetLow then none
  else if (s.ports.get .sup).eligible then some .sup
  else ((rotation s.lastServed).find? (fun n => (s.ports.get (.client n)).eligible)).map .client

/-- The request the TC takes next, with its port: the oldest of the chosen port (R196). -/
def State.choice (s : State) : Option (Port × Request) :=
  match s.chosenPort with
  | none => none
  | some p => (s.ports.get p).buffer.head?.map (fun r => (p, r))

/-- A port changed. -/
def State.mapPort (s : State) (p : Port) (f : PortState → PortState) : State :=
  { s with ports := s.ports.set p (f (s.ports.get p)) }

/-- The oldest request leaves its port's buffer; a client port served becomes the last client port served (R196). -/
def State.dequeue (s : State) (p : Port) : State :=
  let t := s.mapPort p (fun q => { q with buffer := q.buffer.tail })
  match p with
  | .client n => { t with lastServed := n }
  | .sup => t

/-- A response joins the end of its port's queue (R195). -/
def State.answer (s : State) (p : Port) (r : Response) : State :=
  s.mapPort p (fun q => { q with responses := q.responses ++ [r] })

/-- What taking a request from a port does once it has left its buffer: DENIED where a client sends a supervisor-only kind
(R198), else the request's own rule `f`; the reply joins the port's queue in the same happening (R195). -/
def State.take (s : State) (p : Port) (r : Request) (f : State → State × Reply) : State :=
  let t := s.dequeue p
  let out := if supervisorOnly r.call.kind && decide (p ≠ .sup) then refuse t .denied else f t
  out.1.answer p { kind := r.call.kind, seq := r.seq, reply := out.2 }

/-- A request command: the TC takes the named request from the named port when that is the request its arbiter chooses;
otherwise the happening does not occur and nothing changes (R196; logs 1 and 3: DESIGN CHOICE and DEDUCED, both safe). -/
def State.serve (s : State) (p : Port) (r : Request) (f : State → State × Reply) : State :=
  if s.choice = some (p, r) then s.take p r f else s

/-! ### Plans held by the part -/

/-- Does a span of the plan name the slot (R121)? -/
def Plan.shows (p : Plan) (k : Slot) : Bool :=
  p.bands.any (fun b => b.spans.any (fun sp => decide (sp.content.slot = some k)))

/-- The background content (R105). -/
def backgroundContent (c : Colour) : Content :=
  { kind := .background, owner := none, slot := none, stream := none, colour := some c }

/-- The background-only plan: one band of one BACKGROUND span over the whole panel, status FULL (R124). -/
def backgroundPlan (epoch : Word16) (w h : Nat) (c : Colour) : Plan :=
  { epoch := epoch, status := .full, width := w, height := h,
    bands := [{ y0 := 0, y1 := h, spans := [{ x0 := 0, x1 := w, content := backgroundContent c }] }] }

/-- Every slot FREE with its shown mark clear, every Tag Map empty, the pool empty and every walk cursor absent: what
CLEAR_TABLE and the resets share (R22, R23, R46, R177). -/
def State.emptied (s : State) : State :=
  { s with
    table := Vector.replicate 64 none
    shown := Vector.replicate 64 false
    tagMaps := PerSession.make (fun _ => [])
    pool := []
    sessions := PerSession.make (fun x => { s.sessions.get x with cursor := none }) }

end Sys2Proof.Machine
end

