-- ==== Sys2Proof/Machine/Layout.lean ====
section
/-! DEFINITION. What the part puts on its outputs: the bytes of a response (R200), of the status record (R199), of an answer
on the scan link (R201), and what a port drives on SDO (R189 to R194). -/

namespace Sys2Proof.Machine

/-! ### Codes of named values (R200) -/

/-- A number in one byte. -/
def byteOf (n : Nat) : Byte := BitVec.ofNat 8 n

/-- A number in two bytes, most significant first. -/
def wordBytes (n : Nat) : List Byte := word16Bytes (BitVec.ofNat 16 n)

/-- A flag: 01h set, 00h clear (R200). -/
def flagByte (b : Bool) : Byte := if b then 0x01#8 else 0x00#8

/-- Flags as the bits of one byte, the first as bit 0. -/
def bitsByte (l : List Bool) : Byte := byteOf (l.foldr (fun b n => 2 * n + b.toNat) 0)

/-- A session as the client index of a report and the owner of a record: 00h to 03h, and 04h for SUP (R200). -/
def sessionCode : Session → Byte
  | .client n => byteOf n.val
  | .sup => 0x04#8

/-- An owner that may be absent: FFh where it is (R200, R201). -/
def ownerByte (o : Option Session) : Byte := (o.map sessionCode).getD 0xFF#8

/-- The outcome codes (R200). -/
def ResultCode.code : ResultCode → Byte
  | .ok => 0x00#8
  | .already => 0x01#8
  | .badRequest => 0x02#8
  | .denied => 0x03#8
  | .notAttached => 0x04#8
  | .suspended => 0x05#8
  | .draining => 0x06#8
  | .notConfigured => 0x07#8
  | .tagInUse => 0x08#8
  | .noSuchTag => 0x09#8
  | .quota => 0x0A#8
  | .outOfBounds => 0x0B#8
  | .layerDenied => 0x0C#8
  | .overlap => 0x0D#8
  | .stageFull => 0x0E#8
  | .lapsed => 0x0F#8
  | .retiring => 0x10#8
  | .rankInUse => 0x11#8
  | .pinLimit => 0x12#8
  | .scanState => 0x13#8
  | .sessionActive => 0x14#8
  | .limitsConflict => 0x15#8
  | .geometryConflict => 0x16#8
  | .noCursor => 0x17#8

/-- Region states (R200). -/
def RegionState.code : RegionState → Byte
  | .stagedNew => 0x01#8
  | .live => 0x02#8
  | .lapsed => 0x03#8
  | .retiring => 0x04#8

/-- Fill codes (R200). -/
def Fill.code : Fill → Byte
  | .source => 0x00#8
  | .solid => 0x01#8

/-- Staged kinds (R200). -/
def EntryKind.code : EntryKind → Byte
  | .new => 0x01#8
  | .pin => 0x02#8
  | .amend => 0x03#8
  | .revive => 0x04#8
  | .release => 0x05#8
  | .unpin => 0x06#8

/-- Session states (R200). -/
def SessionState.code : SessionState → Byte
  | .detached => 0x00#8
  | .attached => 0x01#8
  | .suspended => 0x02#8
  | .draining => 0x03#8

/-- Pending changes (R200). -/
def PendingChange.code : PendingChange → Byte
  | .noChange => 0x00#8
  | .suspend => 0x01#8
  | .resume => 0x02#8
  | .drain => 0x03#8

/-- Scan states (R200). -/
def ScanState.code : ScanState → Byte
  | .stopped => 0x00#8
  | .priming => 0x01#8
  | .running => 0x02#8
  | .hold => 0x03#8

/-- Sync expectations (R200). -/
def SyncLine.code : SyncLine → Byte
  | .vblank => 0x00#8
  | .fstart => 0x01#8

/-- Resolver states (R200). -/
def ResolverPhase.code : ResolverPhase → Byte
  | .idle => 0x00#8
  | .resolving => 0x01#8
  | .ready => 0x02#8

/-- Plan statuses (R200). -/
def PlanStatus.code : PlanStatus → Byte
  | .full => 0x00#8
  | .reduced => 0x01#8

/-- Span kinds (R201). -/
def SpanKind.code : SpanKind → Byte
  | .background => 0x00#8
  | .source => 0x01#8
  | .solid => 0x02#8

/-- RENEW actions (R200). -/
def RenewAction.code : RenewAction → Byte
  | .renewed => 0x00#8
  | .noEffect => 0x01#8
  | .reviveStaged => 0x02#8

/-- Dispositions (R200). -/
def Disposition.code : Disposition → Byte
  | .freed => 0x00#8
  | .staged => 0x01#8

/-- A notice set: bit 0 APPLIED, 1 LAPSED, 2 RETIRED, 3 VISIBILITY present, 4 VISIBILITY SHOWN (R200). -/
def NoticeSet.code (n : NoticeSet) : Byte :=
  bitsByte [n.applied, n.lapsed, n.retired, n.visibility.isSome, decide (n.visibility = some .shown)]

/-- The alert kinds, coded as the alert mask (R200). -/
def AlertFlags.code (a : AlertFlags) : Byte :=
  bitsByte [a.planLate, a.planReduced, a.syncOrder, a.stageFull, a.clientLapsed, a.framing, a.pinNotice]

/-- The port set of FRAMING: bits 0 to 3 for CP0 to CP3, bit 4 for SP (R200). -/
def portSetByte (p : PerSession Bool) : Byte :=
  bitsByte [p.get (.client 0), p.get (.client 1), p.get (.client 2), p.get (.client 3), p.get .sup]

/-! ### Optional fields of a body (R200) -/

/-- A one-byte field; zero where it is absent (R200). -/
def optionByte (o : Option Byte) : List Byte := [o.getD 0x00#8]

/-- A two-byte field; zeros where it is absent (R200). -/
def optionWord (o : Option Word16) : List Byte := word16Bytes (o.getD 0)

/-! ### Bodies (R200) -/

/-- A session report without its presence field (R24 note 3). -/
def SessionReport.bytes (r : SessionReport) : List Byte :=
  [sessionCode r.session, r.state.code, r.pending.code, byteOf r.quota, byteOf r.ceiling, byteOf r.leaseMax, flagByte r.evicted]
    ++ optionWord r.effective

/-- The scan report (R144). -/
def ScanReport.bytes (r : ScanReport) : List Byte :=
  [r.state.code] ++ word16Bytes r.frame ++ [r.expect.code, r.resolver.code]

/-- The commit summary (R94). -/
def CommitSummary.bytes (c : CommitSummary) : List Byte :=
  word16Bytes c.frame ++ [byteOf c.applied, byteOf c.sessionChanges, byteOf c.freed, flagByte c.material]

/-- A row of the status record (R200). -/
def SessionRow.bytes (r : SessionRow) : List Byte :=
  [r.state.code, r.pending.code, byteOf r.quota, byteOf r.ceiling, byteOf r.leaseMax, flagByte r.evicted,
   byteOf r.regionCount, byteOf r.entryCount]

/-- The 58 bytes of the status record (R200). -/
def StatusRecord.bytes (r : StatusRecord) : List Byte :=
  [r.state.code] ++ word16Bytes r.frame
    ++ [r.expect.code, r.resolver.code,
        bitsByte [r.front.isSome, r.front.any (fun f => decide (f.2 = PlanStatus.reduced))]]
    ++ optionWord (r.front.map (fun f => f.1)) ++ [byteOf r.occupancy, byteOf r.pinned] ++ wordBytes r.width
    ++ wordBytes r.height ++ colourBytes r.background ++ [byteOf r.grace]
    ++ [Session.client 0, .client 1, .client 2, .client 3, .sup].flatMap (fun x => (r.rows.get x).bytes)

/-- The body of a PROBE: the no-plan flag, and eleven fields that are absent with no plan, so the presence field is two
bytes (R139, R140, R200; DEDUCED, log 16, unsafe). -/
def probeBytes (o : Option ProbeReport) : List Byte :=
  [bitsByte [o.any (fun p => p.slot.isSome), o.any (fun p => p.tag.isSome), o.isSome],
   bitsByte (List.replicate 7 o.isSome ++ [o.any (fun p => p.owner.isSome)])]
    ++ [flagByte o.isNone]
    ++ optionWord (o.map (fun p => p.epoch)) ++ optionByte (o.map (fun p => p.status.code))
    ++ optionWord (o.map (fun p => BitVec.ofNat 16 p.y0)) ++ optionWord (o.map (fun p => BitVec.ofNat 16 p.y1))
    ++ optionWord (o.map (fun p => BitVec.ofNat 16 p.x0)) ++ optionWord (o.map (fun p => BitVec.ofNat 16 p.x1))
    ++ optionByte (o.map (fun p => p.kind.code)) ++ optionByte (o.bind (fun p => p.owner.map sessionCode))
    ++ optionByte (o.bind (fun p => p.slot.map (fun k => byteOf k.val))) ++ optionWord (o.bind (fun p => p.tag))
    ++ optionByte (o.map (fun p => flagByte p.stale))

/-- The bytes of a body: the presence field where some field may be absent, then the fields in their rule's order (R200). Whether
the session state of a LOOKUP (R26) is a field that is sent is free (DESIGN CHOICE, log 23, safe). -/
def Body.bytes : Body → List Byte
  | .empty => []
  | .session r => [bitsByte [r.effective.isSome]] ++ r.bytes
  | .departure r freed retiring => [bitsByte [r.effective.isSome]] ++ r.bytes ++ [byteOf freed, byteOf retiring]
  | .opened k lease f => [bitsByte [f.isSome], byteOf k.val, byteOf lease] ++ optionWord f
  | .amended k lease merged f =>
    [bitsByte [lease.isSome, f.isSome], byteOf k.val] ++ optionByte (lease.map byteOf) ++ [flagByte merged] ++ optionWord f
  | .renewed k action remaining f =>
    [bitsByte [remaining.isSome, f.isSome], byteOf k.val, action.code] ++ optionByte (remaining.map byteOf) ++ optionWord f
  | .renewedAll n m incomplete f =>
    [bitsByte [f.isSome], byteOf n, byteOf m, flagByte incomplete] ++ optionWord f
  | .released k d f => [bitsByte [f.isSome], byteOf k.val, d.code] ++ optionWord f
  | .pinned k f => [bitsByte [f.isSome], byteOf k.val] ++ optionWord f
  | .looked st => if Config.lookupSendsState then [st.code] else []
  | .probe o => probeBytes o
  | .walk n more changed start => [byteOf n, bitsByte [more, changed]] ++ word16Bytes start
  | .notices n more => [byteOf n, bitsByte [more]]
  | .configuration w h b g => wordBytes w ++ wordBytes h ++ colourBytes b ++ [byteOf g]
  | .conflict k => [byteOf k.val]
  | .scan r => r.bytes
  | .committed c => c.bytes
  | .cleared r regions entries => r.bytes ++ [byteOf regions, byteOf entries]
  | .status r => r.bytes
  | .alerts pending cs ps mask outstanding =>
    [pending.code, bitsByte cs.toList, portSetByte ps, mask.code, flagByte outstanding]
  | .alertMask mask pending => [mask.code, pending.code]

/-! ### Records (R200) -/

/-- Bytes of a report field from an offset on: the field's, or free bytes where the field is absent (R200; DESIGN CHOICE,
log 11, safe). -/
def reportField (k : Slot) (offset size : Nat) (o : Option (List Byte)) : List Byte :=
  o.getD ((List.range size).map (fun i => Config.absentReportByte k.val (offset + i)))

/-- The bytes of a rectangle (R200). -/
def Rect.bytes (q : Rect) : List Byte := wordBytes q.x0 ++ wordBytes q.y0 ++ wordBytes q.x1 ++ wordBytes q.y1

/-- The last 23 bytes of a region report: the optional fields, the staged kind, the flags and the notices, which a FREE slot
does not have (R68, R200). -/
def reportTail (k : Slot) (rect : Option Rect) (level : Option Nat) (fill : Option Fill) (stream : Option Nat)
    (colour fallback : Option Colour) (lease remaining grace : Option Nat) (staged flags : Byte) (notices : Option NoticeSet) :
    List Byte :=
  reportField k 7 8 (rect.map Rect.bytes) ++ reportField k 15 1 (level.map (fun n => [byteOf n]))
    ++ reportField k 16 1 (fill.map (fun f => [f.code])) ++ reportField k 17 1 (stream.map (fun n => [byteOf n]))
    ++ reportField k 18 3 (colour.map colourBytes) ++ reportField k 21 3 (fallback.map colourBytes)
    ++ reportField k 24 1 (lease.map (fun n => [byteOf n])) ++ reportField k 25 1 (remaining.map (fun n => [byteOf n]))
    ++ reportField k 26 1 (grace.map (fun n => [byteOf n])) ++ [staged, flags]
    ++ reportField k 29 1 (notices.map (fun n => [n.code]))

/-- The class byte: 00h CLIENT, 01h PINNED (R200). -/
def classByte : Session → Byte
  | .client _ => 0x00#8
  | .sup => 0x01#8

/-- The presence byte of a region report (R200). -/
def ReportedRegion.presence (r : ReportedRegion) : Byte :=
  bitsByte
    [r.rect.isSome, r.layer.isSome, r.rank.isSome, r.stream.isSome, r.colour.isSome, r.fallback.isSome, r.lease.isSome,
     r.graceLeft.isSome]

/-- The 30 bytes of a region report (R67, R68, R200). The report of a FREE slot has tag 0, owner and class FFh, no presence bit,
staged kind none and both flags clear (R22, R200). What stands at the place of its notices, offset 29, the spec does not say: R68
gives that report no notice set and R200 has no code for an absent one, so it is a free byte (DESIGN CHOICE, log 11, safe). -/
def RegionReport.bytes (r : RegionReport) : List Byte :=
  match r.region with
  | none =>
    [0x00#8, 0x00#8, byteOf r.slot.val, 0x00#8, 0xFF#8, 0xFF#8, 0x00#8]
      ++ reportTail r.slot none none none none none none none none none 0x00#8 0x00#8 none
  | some g =>
    word16Bytes g.tag ++ [byteOf r.slot.val, g.state.code, sessionCode g.owner, classByte g.owner, g.presence]
      ++ reportTail r.slot g.rect (g.layer.or g.rank) g.fill g.stream g.colour g.fallback g.lease g.remaining g.graceLeft
        ((g.staged.map EntryKind.code).getD 0x00#8) (bitsByte [g.staged.isSome, g.awaiting])
        (some g.notices)

/-- The 4 bytes of a notice entry (R200 note 1). -/
def TagEntry.bytes (e : TagEntry) : List Byte :=
  word16Bytes e.tag ++ [(e.slot.map (fun k => byteOf k.val)).getD 0xFF#8, e.notices.code]

/-- The bytes of a record. -/
def Record.bytes : Record → List Byte
  | .region r => r.bytes
  | .notice e => e.bytes

/-! ### Whole messages -/

/-- The bytes of a response: header, body, records (R200). -/
def Response.bytes (r : Response) : List Byte :=
  [r.kind.code, r.seq, r.reply.code.code, byteOf r.reply.body.bytes.length, byteOf r.reply.records.length]
    ++ r.reply.body.bytes ++ r.reply.records.flatMap Record.bytes

/-- The 11 bytes of a span record (R201). -/
def Span.bytes (sp : Span) : List Byte :=
  wordBytes sp.x0 ++ wordBytes sp.x1
    ++ [sp.content.kind.code, ownerByte sp.content.owner, (sp.content.slot.map (fun k => byteOf k.val)).getD 0xFF#8,
        (sp.content.stream.map byteOf).getD 0xFF#8]
    ++ colourBytes (sp.content.colour.getD 0)

/-- The bytes of an answer on the scan link (R201). -/
def Answer.bytes : Answer → List Byte
  | .noPlan c => [0x80#8, c]
  | .range c => [0x81#8, c]
  | .plan epoch status n w h =>
    [0x00#8, 0x01#8] ++ word16Bytes epoch ++ [status.code, byteOf n] ++ wordBytes w ++ wordBytes h
  | .band c epoch i b =>
    [0x01#8, c] ++ word16Bytes epoch ++ [byteOf i] ++ wordBytes b.y0 ++ wordBytes b.y1 ++ [byteOf b.spans.length]
      ++ b.spans.flatMap Span.bytes

/-- What the interface still has to send when its answer was just taken: the answer, then a LINK_BUSY answer for each refused
query in order (R133, R201). -/
def Link.bytes : Link → List Byte
  | .idle => []
  | .answering a owed => a.bytes ++ owed.flatMap (fun c => [0x82#8, c])

/-- The status byte of a write (R190, R191). -/
def WriteStatus.code : WriteStatus → Byte
  | .accepted => 0x00#8
  | .full => 0x01#8
  | .framing => 0x02#8

/-- What a port drives on SDO in its present state. -/
inductive Drive where
  /-- High impedance: select is high. -/
  | highImpedance
  /-- The byte, for every byte clocked. -/
  | always (b : Byte)
  /-- The bytes, in order. -/
  | message (l : List Byte)
  deriving DecidableEq, Repr

/-- SDO by the transaction state (R189 to R194). IGNORING drives FFh, which is also the EMPTY marker. -/
def Transaction.drives : Transaction → Drive
  | .idle => .highImpedance
  | .command => .always 0x00#8
  | .header _ => .always 0x00#8
  | .body _ _ _ => .always 0x00#8
  | .status w => .message [w.code]
  | .sending r _ => .message r.bytes
  | .ignoring => .always 0xFF#8

end Sys2Proof.Machine
end

