-- ==== Sys2Proof/Machine/Operands.lean ====
section
/-! DEFINITION. What the fields of a request's body mean: the region field block of OPEN, AMEND and PIN with the validity
steps of R52, R56 and R64, client indices, walk filters and alert masks (R200). -/

namespace Sys2Proof.Machine

/-! ### The region field block -/

/-- Is a bit of the block's mask set (R200)? -/
def bitSet (b : FieldBlock) (n : Nat) : Bool := b.mask.getLsbD n

/-- The rectangle of the block (R200). -/
def blockRect (b : FieldBlock) : Rect :=
  { x0 := b.x0.toNat, y0 := b.y0.toNat, x1 := b.x1.toNat, y1 := b.y1.toNat }

/-- A fill byte: 00h SOURCE, 01h SOLID, no other value (R200). -/
def fillOf (f : Byte) : Option Fill :=
  if f = 0 then some .source else if f = 1 then some .solid else none

/-- A value carried only where its mask bit is set. -/
def carried {α : Type} (b : Bool) (v : α) : Option α := if b then some v else none

/-! ### OPEN -/

/-- The field-validity step of a client's OPEN (R52, R200 note 2). -/
def openValid (b : FieldBlock) : Bool :=
  decide (b.tag ≠ 0) && decide (b.layer.toNat ≤ Config.layerMax) && decide (b.lease ≠ 0) && !bitSet b 5 &&
    match fillOf b.fill with
    | none => false
    | some .solid => bitSet b 6
    | some .source => !bitSet b 6

/-- The staged fields of the NEW entry of an accepted OPEN, with the granted lease (R53). -/
def openFields (b : FieldBlock) (lease : Nat) : StagedFields :=
  { StagedFields.empty with
    rect := some (blockRect b)
    layer := some b.layer.toNat
    lease := some lease
    fill := fillOf b.fill
    colour := carried (bitSet b 6) b.colour
    fallback := if bitSet b 7 then .set b.fallback else .untouched }

/-- The granted lease: the lesser of the lease named and the client's lease maximum (R29, R53). -/
def grantedLease (lease : Byte) (leaseMax : Nat) : Nat := min lease.toNat leaseMax

/-! ### AMEND -/

/-- The fields an AMEND carries, before the lease is clamped (R200 note 1). -/
def amendFields (b : FieldBlock) : StagedFields :=
  { rect := carried (bitSet b 0) (blockRect b)
    layer := carried (bitSet b 1) b.layer.toNat
    rank := none
    lease := carried (bitSet b 3) b.lease.toNat
    fill := if bitSet b 4 then fillOf b.fill else none
    stream := carried (bitSet b 5) b.stream.toNat
    colour := carried (bitSet b 6) b.colour
    fallback := if bitSet b 7 then .set b.fallback else if bitSet b 8 then .remove else .untouched }

/-- Does the mask mark at least one field, and not both fallback set and fallback remove (R56, R200 note 1)? -/
def amendMaskValid (b : FieldBlock) : Bool :=
  decide (b.mask.extractLsb' 0 9 ≠ 0) && !(bitSet b 7 && bitSet b 8)

/-- The fill, stream and colour of an AMEND that are refused whoever sends it: a fill byte other than SOURCE or SOLID, SOLID
without a colour, SOURCE with a colour, a colour without a fill over a prospective SOURCE (R56). -/
def amendFillValid (b : FieldBlock) (prospective : Option Fill) : Bool :=
  if bitSet b 4 then
    match fillOf b.fill with
    | none => false
    | some .solid => bitSet b 6
    | some .source => !bitSet b 6
  else !(bitSet b 6 && decide (prospective = some .source))

/-- The field-validity step of a client's AMEND (R56). -/
def amendValidClient (b : FieldBlock) (prospective : Option Fill) : Bool :=
  amendMaskValid b && !(bitSet b 1 && decide (Config.layerMax < b.layer.toNat)) && !(bitSet b 3 && decide (b.lease = 0))
    && amendFillValid b prospective && !bitSet b 5 && !bitSet b 2

/-- The stream of a supervisor's AMEND: above 3, missing with SOURCE, present with SOLID, or without a fill over a
prospective SOLID, it is refused (R56). -/
def amendStreamValid (b : FieldBlock) (prospective : Option Fill) : Bool :=
  !(bitSet b 5 && decide (Config.streamMax < b.stream.toNat)) &&
    if bitSet b 4 then
      match fillOf b.fill with
      | none => false
      | some .solid => !bitSet b 5
      | some .source => bitSet b 5
    else !(bitSet b 5 && decide (prospective = some .solid))

/-- The field-validity step of the supervisor's AMEND of a pinned region (R56, R58). -/
def amendValidPinned (b : FieldBlock) (prospective : Option Fill) : Bool :=
  amendMaskValid b && !bitSet b 1 && !bitSet b 2 && !bitSet b 3 && !bitSet b 7 && !bitSet b 8
    && amendFillValid b prospective && amendStreamValid b prospective

/-! ### PIN -/

/-- The field-validity step of PIN (R64, R200 note 3). -/
def pinValid (b : FieldBlock) : Bool :=
  decide (b.tag ≠ 0) && decide (b.rank.toNat ≤ Config.rankMax) && !bitSet b 1 && !bitSet b 3 && !bitSet b 7 && !bitSet b 8 &&
    match fillOf b.fill with
    | none => false
    | some .source => bitSet b 5 && decide (b.stream.toNat ≤ Config.streamMax) && !bitSet b 6
    | some .solid => bitSet b 6 && !bitSet b 5

/-- The staged fields of the PIN entry of an accepted PIN (R65). -/
def pinFields (b : FieldBlock) : StagedFields :=
  { StagedFields.empty with
    rect := some (blockRect b)
    rank := some b.rank.toNat
    fill := fillOf b.fill
    stream := carried (bitSet b 5) b.stream.toNat
    colour := carried (bitSet b 6) b.colour }

/-! ### Other bodies -/

/-- The client a client index names; none above 3 (R25). -/
def clientOf (b : Byte) : Option Client := if h : b.toNat < 4 then some ⟨b.toNat, h⟩ else none

/-- The filter of a WALK_START: bits 0 to 3 name the states, bits 4 to 7 must be clear and some state must be named (R178,
R200 note 2). -/
def filterOf (b : Byte) : Option StateFilter :=
  if b = 0 ∨ b.extractLsb' 4 4 ≠ 0 then none
  else some { stagedNew := b.getLsbD 0, live := b.getLsbD 1, lapsed := b.getLsbD 2, retiring := b.getLsbD 3 }

/-- Is the state in the filter (R179)? -/
def StateFilter.admits (f : StateFilter) : RegionState → Bool
  | .stagedNew => f.stagedNew
  | .live => f.live
  | .lapsed => f.lapsed
  | .retiring => f.retiring

/-- The alert flags that bits 0 to 6 of a byte name, in the order of R200 note 2. -/
def alertFlagsOf (b : Byte) : AlertFlags :=
  { planLate := b.getLsbD 0, planReduced := b.getLsbD 1, syncOrder := b.getLsbD 2, stageFull := b.getLsbD 3,
    clientLapsed := b.getLsbD 4, framing := b.getLsbD 5, pinNotice := b.getLsbD 6 }

/-- The mask of a SET_ALERT_MASK; none with bit 7 set (R176). -/
def alertMaskOf (b : Byte) : Option AlertFlags := if b.getLsbD 7 then none else some (alertFlagsOf b)

end Sys2Proof.Machine
end

