-- ==== Sys2Proof/Machine/Sessions.lean ====
section
/-! DEFINITION. The session requests: ATTACH, DETACH, SET_LIMITS, SUSPEND, RESUME and EVICT (chapter 2). -/

namespace Sys2Proof.Machine

/-- A reply that carries a session report of the state it leaves. -/
def sessionReply (s : State) (c : ResultCode) (x : Session) : State × Reply :=
  (s, { code := c, body := .session (s.sessionReport x), records := [] })

/-- ATTACH (R25, R31). The report gives the evicted mark as it stood before the request clears it. -/
def attachRequest (p : Port) (s : State) : State × Reply :=
  match p with
  | .sup => sessionReply s .already .sup
  | .client n =>
    match (s.sessions.get (.client n)).state with
    | .detached =>
      let t := s.mapSession (.client n) (fun r => { r with state := .attached })
      let u := t.mapSession (.client n) (fun r => { r with evicted := false })
      (u, { code := .ok, body := .session (t.sessionReport (.client n)), records := [] })
    | .attached => sessionReply s .already (.client n)
    | .suspended => sessionReply s .already (.client n)
    | .draining => refuse s .draining

/-- Is the slot's region owned by the session and in the state? -/
def State.ownedIn (s : State) (x : Session) (st : RegionState) (k : Slot) : Bool :=
  s.table[k].any (fun r => decide (r.owner = x) && decide (r.state = st))

/-- Is the slot's region owned by the session? -/
def State.ownedBy (s : State) (x : Session) (k : Slot) : Bool := s.table[k].any (fun r => decide (r.owner = x))

/-- A LIVE or LAPSED region made RETIRING: it keeps its active fields, its presentation, its remaining count and its
awaiting flag, and its grace_left becomes absent (R15, R62). -/
def Region.retire (r : Region) : Region := { r with state := .retiring, graceLeft := none }

/-- What becomes of one slot when its client departs: a STAGED_NEW region goes, a LIVE or LAPSED one becomes RETIRING
(R32). -/
def departSlot (x : Session) (o : Option Region) : Option Region :=
  o.bind (fun r =>
    if r.owner = x then
      match r.state with
      | .stagedNew => none
      | .live => some r.retire
      | .lapsed => some r.retire
      | .retiring => some r
    else some r)

/-- A client's departure, shared by DETACH and EVICT: its pool entries go, its STAGED_NEW regions are freed with their Tag
Map entries, its LIVE and LAPSED regions become RETIRING, DRAIN is pending and the session is DRAINING (R32). -/
def State.depart (s : State) (x : Session) : State :=
  { s with
    pool := s.pool.filter (fun e => !s.ownedBy x e.slot)
    table := s.table.map (departSlot x)
    shown := Vector.ofFn (fun k => s.shown[k] && !s.ownedIn x .stagedNew k)
    tagMaps := s.tagMaps.set x ((s.tagMaps.get x).filter (fun e => !e.slot.any (s.ownedIn x .stagedNew)))
    sessions := s.sessions.set x { s.sessions.get x with pending := .drain, state := .draining } }

/-- The OK reply of DETACH and EVICT: the session report, the regions freed at once and the regions RETIRING after the
request (R32). `s` is the state before the departure and `t` the state after it. -/
def departureReply (s t : State) (x : Session) : State × Reply :=
  accept t (.departure (t.sessionReport x)
    (s.countRegions (fun r => decide (r.owner = x) && decide (r.state = .stagedNew)))
    (t.countRegions (fun r => decide (r.owner = x) && decide (r.state = .retiring))))

/-- DETACH (R25, R32). -/
def detachRequest (p : Port) (s : State) : State × Reply :=
  match p with
  | .sup => refuse s .badRequest
  | .client n =>
    match (s.sessions.get (.client n)).state with
    | .detached => refuse s .notAttached
    | .draining => refuse s .draining
    | .attached => departureReply s (s.depart (.client n)) (.client n)
    | .suspended => departureReply s (s.depart (.client n)) (.client n)

/-- The quotas of the four clients together, with the named client's taken as `quota` (R30). -/
def State.quotaSumWith (s : State) (n : Client) (quota : Nat) : Nat :=
  (clients.map (fun m => if m = n then quota else (s.sessions.get (.client m)).quota)).sum

/-- The field validity of SET_LIMITS but for the client index (R30 step 1). -/
def limitsValid (quota ceiling leaseMax : Byte) : Bool :=
  decide (quota.toNat ≤ Config.quotaMax) && decide (ceiling.toNat ≤ Config.layerMax) && decide (leaseMax ≠ 0)

/-- SET_LIMITS (R30). -/
def setLimitsRequest (client quota ceiling leaseMax : Byte) (s : State) : State × Reply :=
  match clientOf client with
  | none => refuse s .badRequest
  | some n =>
    if !limitsValid quota ceiling leaseMax then refuse s .badRequest
    else if (s.sessions.get (.client n)).state ≠ .detached then refuse s .sessionActive
    else if Config.quotaSumMax < s.quotaSumWith n quota.toNat then refuse s .limitsConflict
    else
      sessionReply
        (s.mapSession (.client n) (fun r =>
          { r with quota := quota.toNat, ceiling := ceiling.toNat, leaseMax := leaseMax.toNat }))
        .ok (.client n)

/-- The pending change that SUSPEND leaves in an ATTACHED or SUSPENDED session: it stages a suspension of the former and
cancels a resumption of the latter (R34). -/
def pendingAfterSuspend (r : SessionRecord) : PendingChange :=
  match r.state, r.pending with
  | .attached, .noChange => .suspend
  | .suspended, .resume => .noChange
  | _, c => c

/-- The pending change that RESUME leaves in an ATTACHED or SUSPENDED session (R34). -/
def pendingAfterResume (r : SessionRecord) : PendingChange :=
  match r.state, r.pending with
  | .attached, .suspend => .noChange
  | .suspended, .noChange => .resume
  | _, c => c

/-- SUSPEND or RESUME of a named client, with the pending change it leaves (R34 to R36). -/
def changePending (client : Byte) (f : SessionRecord → PendingChange) (s : State) : State × Reply :=
  match clientOf client with
  | none => refuse s .badRequest
  | some n =>
    match (s.sessions.get (.client n)).state with
    | .detached => refuse s .notAttached
    | .draining => refuse s .draining
    | .attached => sessionReply (s.mapSession (.client n) (fun r => { r with pending := f r })) .ok (.client n)
    | .suspended => sessionReply (s.mapSession (.client n) (fun r => { r with pending := f r })) .ok (.client n)

/-- SUSPEND (R35). -/
def suspendRequest (client : Byte) (s : State) : State × Reply := changePending client pendingAfterSuspend s

/-- RESUME (R36). -/
def resumeRequest (client : Byte) (s : State) : State × Reply := changePending client pendingAfterResume s

/-- The departure of an evicted client: all that DETACH does, and the evicted mark set (R37, R38). -/
def State.evictClient (s : State) (n : Client) : State :=
  (s.depart (.client n)).mapSession (.client n) (fun r => { r with evicted := true })

/-- EVICT (R37). -/
def evictRequest (client : Byte) (s : State) : State × Reply :=
  match clientOf client with
  | none => refuse s .badRequest
  | some n =>
    match (s.sessions.get (.client n)).state with
    | .detached => refuse s .notAttached
    | .draining => refuse s .draining
    | .attached => departureReply s (s.evictClient n) (.client n)
    | .suspended => departureReply s (s.evictClient n) (.client n)

/-- The TC takes an ATTACH (R31). -/
def execAttach (port : Port) (seq : Byte) (s : State) : Result :=
  .next (s.serve port ⟨seq, .attach⟩ (attachRequest port))

/-- The TC takes a DETACH (R32). -/
def execDetach (port : Port) (seq : Byte) (s : State) : Result :=
  .next (s.serve port ⟨seq, .detach⟩ (detachRequest port))

/-- The TC takes a SET_LIMITS (R30). -/
def execSetLimits (port : Port) (seq client quota ceiling leaseMax : Byte) (s : State) : Result :=
  .next (s.serve port ⟨seq, .setLimits client quota ceiling leaseMax⟩ (setLimitsRequest client quota ceiling leaseMax))

/-- The TC takes a SUSPEND (R35). -/
def execSuspend (port : Port) (seq client : Byte) (s : State) : Result :=
  .next (s.serve port ⟨seq, .suspend client⟩ (suspendRequest client))

/-- The TC takes a RESUME (R36). -/
def execResume (port : Port) (seq client : Byte) (s : State) : Result :=
  .next (s.serve port ⟨seq, .resume client⟩ (resumeRequest client))

/-- The TC takes an EVICT (R37). -/
def execEvict (port : Port) (seq client : Byte) (s : State) : Result :=
  .next (s.serve port ⟨seq, .evict client⟩ (evictRequest client))

end Sys2Proof.Machine
end

