-- ==== Sys2Proof/Machine/Regions.lean ====
section
/-! DEFINITION. The region requests: OPEN, AMEND, RENEW, RENEW_ALL, RELEASE, PIN, UNPIN, LOOKUP and LOOKUP_SLOT
(chapter 3). -/

namespace Sys2Proof.Machine

/-! ### OPEN and PIN -/

/-- A region just created: STAGED_NEW, invisible, with no active field (R2, R12). -/
def newRegion (owner : Session) (tag : Word16) : Region :=
  { state := .stagedNew, owner := owner, tag := tag, rect := none, layer := none, rank := none, fill := none,
    stream := none, colour := none, fallback := none, lease := none, remaining := none, graceLeft := none,
    presentation := .none, awaiting := false }

/-- The creation of a region in a FREE slot: the record, its pool entry at the end of the pool, and its Tag Map entry with an
empty notice set (R17, R53, R65). -/
def State.createRegion (s : State) (k : Slot) (owner : Session) (tag : Word16) (kind : EntryKind) (fields : StagedFields) :
    State :=
  ((s.putRegion k (newRegion owner tag)).stage { slot := k, kind := kind, fields := fields }).mapTags owner
    (insertTag { tag := tag, slot := some k, notices := NoticeSet.empty })

/-- OPEN from a client, in the check order of R51. -/
def openClient (n : Client) (b : FieldBlock) (s : State) : State × Reply :=
  let x : Session := .client n
  let sess := s.sessions.get x
  match s.sessionRefusal x .change with
  | some c => refuse s c
  | none =>
    if !s.configured then refuse s .notConfigured
    else if !openValid b then refuse s .badRequest
    else if (findTag (s.tagMaps.get x) b.tag).isSome then refuse s .tagInUse
    else if sess.quota ≤ (s.tagMaps.get x).length then refuse s .quota
    else if !(blockRect b).within s.scan.width s.scan.height then refuse s .outOfBounds
    else if sess.ceiling < b.layer.toNat then refuse s .layerDenied
    else if s.claimOverlaps none (blockRect b) b.layer.toNat then refuse s .overlap
    else if s.poolFull then refuseFull s
    else
      match s.lowestFree with
      -- No run reaches this: a FREE slot exists once the quota check has passed (R17; DESIGN CHOICE, log 12, safe).
      | none => refuse s .quota
      | some k =>
        let lease := grantedLease b.lease sess.leaseMax
        accept (s.createRegion k x b.tag .new (openFields b lease)) (.opened k lease s.effectiveFrame)

/-- OPEN (R48, R51). From SP it is refused at the field-validity step, which follows the geometry step (DEDUCED, log 9,
unsafe). -/
def openRequest (p : Port) (b : FieldBlock) (s : State) : State × Reply :=
  match p with
  | .sup => if s.configured then refuse s .badRequest else refuse s .notConfigured
  | .client n => openClient n b s

/-- Is a rank held by a non-FREE pinned region, by its record or by its staged entry (R18, R64)? -/
def State.rankHeld (s : State) (rank : Nat) : Bool :=
  slots.any (fun k =>
    s.table[k].any (fun r =>
      r.pinned && decide (((s.entryFor k).bind (fun e => e.fields.rank)).or r.rank = some rank)))

/-- PIN, in the check order of R64. -/
def pinRequest (b : FieldBlock) (s : State) : State × Reply :=
  if !s.configured then refuse s .notConfigured
  else if !pinValid b then refuse s .badRequest
  else if (findTag (s.tagMaps.get .sup) b.tag).isSome then refuse s .tagInUse
  else if Config.pinLimit ≤ s.pinnedCount then refuse s .pinLimit
  else if !(blockRect b).within s.scan.width s.scan.height then refuse s .outOfBounds
  else if s.rankHeld b.rank.toNat then refuse s .rankInUse
  else if s.poolFull then refuseFull s
  else
    match s.lowestFree with
    -- No run reaches this: a FREE slot exists once the pin limit check has passed (R17; DESIGN CHOICE, log 12, safe).
    | none => refuse s .pinLimit
    | some k => accept (s.createRegion k .sup b.tag .pin (pinFields b)) (.pinned k s.effectiveFrame)

/-! ### AMEND -/

/-- The fields of an accepted AMEND: its lease clamped to the owner's lease maximum (R29, R56). -/
def clampedFields (b : FieldBlock) (leaseMax : Nat) : StagedFields :=
  { amendFields b with lease := (amendFields b).lease.map (fun l => min l leaseMax) }

/-- The staging of an AMEND: merged into the slot's entry where it stands, or appended as a new entry (R57). -/
def State.stageAmend (s : State) (k : Slot) (f : StagedFields) : State :=
  match s.entryFor k with
  | some _ => s.restage k (fun e => { e with fields := e.fields.merge e.kind f })
  | none => s.stage { slot := k, kind := .amend, fields := StagedFields.empty.merge .amend f }

/-- Does the merged prospective geometry of an AMEND overlap another region's (R54, R55 step 7)? -/
def State.amendOverlaps (s : State) (k : Slot) (r : Region) (f : StagedFields) : Bool :=
  if f.rect.isNone && f.layer.isNone then false
  else
    match f.rect.or (s.prospectiveRect k r), f.layer.or (s.prospectiveLayer k r) with
    | some rect, some layer => s.claimOverlaps (some k) rect layer
    | _, _ => false

/-- The steps of an AMEND after the region-state check (R55 steps 4 to 8, R58). -/
def amendChecked (p : Port) (b : FieldBlock) (k : Slot) (r : Region) (s : State) : State × Reply :=
  let sess := s.sessions.get p
  let f := clampedFields b sess.leaseMax
  let valid :=
    match p with
    | .sup => amendValidPinned b (s.prospectiveFill k r)
    | .client _ => amendValidClient b (s.prospectiveFill k r)
  if !valid then refuse s .badRequest
  else if f.rect.any (fun q => !q.within s.scan.width s.scan.height) then refuse s .outOfBounds
  else if decide (p ≠ .sup) && f.layer.any (fun l => decide (sess.ceiling < l)) then refuse s .layerDenied
  else if decide (p ≠ .sup) && s.amendOverlaps k r f then refuse s .overlap
  else if (s.entryFor k).isNone && s.poolFull then refuseFull s
  else accept (s.stageAmend k f) (.amended k f.lease (s.entryFor k).isSome s.effectiveFrame)

/-- AMEND (R55 to R58). -/
def amendRequest (p : Port) (b : FieldBlock) (s : State) : State × Reply :=
  match s.sessionRefusal p .change with
  | some c => refuse s c
  | none =>
    match s.regionByTag p b.tag with
    | .error c => refuse s c
    | .ok (k, r) =>
      match r.state with
      | .lapsed => refuse s .lapsed
      | .retiring => refuse s .retiring
      | .stagedNew => amendChecked p b k r s
      | .live => amendChecked p b k r s

/-! ### RENEW -/

/-- Remaining set back to the lease (R6, R59). -/
def Region.renew (r : Region) : Region := { r with remaining := r.lease }

/-- A REVIVE entry (R43). -/
def reviveEntry (k : Slot) : PoolEntry := { slot := k, kind := .revive, fields := StagedFields.empty }

/-- RENEW of one region by its state (R59). -/
def renewRegion (k : Slot) (r : Region) (s : State) : State × Reply :=
  match r.state with
  | .live => accept (s.putRegion k r.renew) (.renewed k .renewed r.lease none)
  | .stagedNew => accept s (.renewed k .noEffect r.remaining none)
  | .retiring => refuse s .retiring
  | .lapsed =>
    if (s.entryFor k).isSome then accept s (.renewed k .noEffect r.remaining none)
    else if s.poolFull then refuseFull s
    else accept (s.stage (reviveEntry k)) (.renewed k .reviveStaged r.remaining s.effectiveFrame)

/-- What RENEW(0) has done so far: the state, the renewed and revived counts, and the incomplete flag (R61). -/
structure RenewTally where
  state      : State
  renewed    : Nat
  revived    : Nat
  incomplete : Bool
  deriving DecidableEq, Repr

/-- One entry of the Tag Map under RENEW(0) (R61). -/
def renewEntry (a : RenewTally) (e : TagEntry) : RenewTally :=
  match e.slot with
  | none => a
  | some k =>
    match a.state.table[k] with
    | none => a
    | some r =>
      match r.state with
      | .live => { a with state := a.state.putRegion k r.renew, renewed := a.renewed + 1 }
      | .stagedNew => a
      | .retiring => a
      | .lapsed =>
        if (a.state.entryFor k).isSome then { a with revived := a.revived + 1 }
        else if a.state.poolFull then { a with incomplete := true }
        else { a with state := a.state.stage (reviveEntry k), revived := a.revived + 1 }

/-- RENEW(0): the client's Tag Map in ascending tag order; STAGE_FULL is raised once when the flag is set (R61). -/
def renewEvery (x : Session) (s : State) : State × Reply :=
  let a := (s.tagMaps.get x).foldl renewEntry { state := s, renewed := 0, revived := 0, incomplete := false }
  accept (a.state.raiseIf a.incomplete .stageFull)
    (.renewedAll a.renewed a.revived a.incomplete (if a.revived = 0 then none else s.effectiveFrame))

/-- RENEW: tag 0 means every tag of the requester (R48, R49, R59, R61). -/
def renewRequest (p : Port) (tag : Word16) (s : State) : State × Reply :=
  match p with
  | .sup => refuse s .badRequest
  | .client n =>
    match s.sessionRefusal (.client n) .change with
    | some c => refuse s c
    | none =>
      if tag = 0 then renewEvery (.client n) s
      else
        match s.regionByTag (.client n) tag with
        | .error c => refuse s c
        | .ok (k, r) => renewRegion k r s

/-! ### RELEASE and UNPIN -/

/-- A removal staged for a LIVE or LAPSED region: its entry becomes the removal where it stands or a new one is appended,
and the region becomes RETIRING (R45, R62, R66). -/
def State.stageRemoval (s : State) (k : Slot) (r : Region) (kind : EntryKind) : State :=
  match s.entryFor k with
  | some _ => (s.restage k (PoolEntry.become kind)).putRegion k r.retire
  | none => (s.stage { slot := k, kind := kind, fields := StagedFields.empty }).putRegion k r.retire

/-- A STAGED_NEW region freed at once: its entry, its slot and its Tag Map entry go (R12, R46). -/
def State.freeStaged (s : State) (k : Slot) (owner : Session) : State := (s.unstage k).freeRegion k owner

/-- RELEASE or UNPIN of a region by its state, with the kind of entry it stages (R62, R66). -/
def removeRegion (p : Port) (kind : EntryKind) (k : Slot) (r : Region) (s : State) : State × Reply :=
  match r.state with
  | .stagedNew => accept (s.freeStaged k p) (.released k .freed none)
  | .retiring => refuse s .retiring
  | .live =>
    if (s.entryFor k).isNone && s.poolFull then refuseFull s
    else accept (s.stageRemoval k r kind) (.released k .staged s.effectiveFrame)
  | .lapsed =>
    if (s.entryFor k).isNone && s.poolFull then refuseFull s
    else accept (s.stageRemoval k r kind) (.released k .staged s.effectiveFrame)

/-- RELEASE (R48, R62). -/
def releaseRequest (p : Port) (tag : Word16) (s : State) : State × Reply :=
  match p with
  | .sup => refuse s .badRequest
  | .client n =>
    match s.sessionRefusal (.client n) .change with
    | some c => refuse s c
    | none =>
      match s.regionByTag (.client n) tag with
      | .error c => refuse s c
      | .ok (k, r) => removeRegion (.client n) .release k r s

/-- UNPIN (R66). -/
def unpinRequest (tag : Word16) (s : State) : State × Reply :=
  match s.regionByTag .sup tag with
  | .error c => refuse s c
  | .ok (k, r) => removeRegion .sup .unpin k r s

/-! ### LOOKUP and LOOKUP_SLOT -/

/-- LOOKUP: the region report of R67, and beside it the state of the requester's session (R26). R26 has the state reported in
LOOKUP's session fields, and the report of R67 and R200 has none, so the reply holds it as its body; the bytes of that body are
left free (DESIGN CHOICE, log 23, unsafe). -/
def lookupRequest (p : Port) (tag : Word16) (s : State) : State × Reply :=
  match s.sessionRefusal p .read with
  | some c => refuse s c
  | none =>
    match s.regionByTag p tag with
    | .error c => refuse s c
    | .ok (k, _) => acceptWith s (.looked (s.sessions.get p).state) [.region (s.regionReport k)]

/-- LOOKUP_SLOT (R68). -/
def lookupSlotRequest (slot : Byte) (s : State) : State × Reply :=
  if h : slot.toNat < 64 then acceptWith s .empty [.region (s.regionReport ⟨slot.toNat, h⟩)]
  else refuse s .badRequest

/-! ### The commands -/

/-- The TC takes an OPEN (R51). -/
def execOpenRegion (port : Port) (seq : Byte) (block : FieldBlock) (s : State) : Result :=
  .next (s.serve port ⟨seq, .openRegion block⟩ (openRequest port block))

/-- The TC takes an AMEND (R55). -/
def execAmend (port : Port) (seq : Byte) (block : FieldBlock) (s : State) : Result :=
  .next (s.serve port ⟨seq, .amend block⟩ (amendRequest port block))

/-- The TC takes a RENEW of one tag (R59). -/
def execRenew (port : Port) (seq : Byte) (tag : Word16) (s : State) : Result :=
  .next (s.serve port ⟨seq, .renew tag⟩ (renewRequest port tag))

/-- The TC takes a RENEW with tag 0 (R61). -/
def execRenewAll (port : Port) (seq : Byte) (s : State) : Result :=
  .next (s.serve port ⟨seq, .renew 0⟩ (renewRequest port 0))

/-- The TC takes a RELEASE (R62). -/
def execRelease (port : Port) (seq : Byte) (tag : Word16) (s : State) : Result :=
  .next (s.serve port ⟨seq, .release tag⟩ (releaseRequest port tag))

/-- The TC takes a PIN (R64). -/
def execPin (port : Port) (seq : Byte) (block : FieldBlock) (s : State) : Result :=
  .next (s.serve port ⟨seq, .pin block⟩ (pinRequest block))

/-- The TC takes an UNPIN (R66). -/
def execUnpin (port : Port) (seq : Byte) (tag : Word16) (s : State) : Result :=
  .next (s.serve port ⟨seq, .unpin tag⟩ (unpinRequest tag))

/-- The TC takes a LOOKUP (R67). -/
def execLookup (port : Port) (seq : Byte) (tag : Word16) (s : State) : Result :=
  .next (s.serve port ⟨seq, .lookup tag⟩ (lookupRequest port tag))

/-- The TC takes a LOOKUP_SLOT (R68). -/
def execLookupSlot (port : Port) (seq : Byte) (slot : Byte) (s : State) : Result :=
  .next (s.serve port ⟨seq, .lookupSlot slot⟩ (lookupSlotRequest slot))

end Sys2Proof.Machine
end

