-- ==== Sys2Proof/Machine/Resolver.lean ====
section
/-! DEFINITION. The Resolver: what a resolve reads at its start, and the plan it builds (chapter 5). -/

namespace Sys2Proof.Machine

/-! ### Candidates and stacking -/

/-- The content a candidate gives its pixels, by its presentation and fill; none where the region is no candidate (R105). -/
def Region.content (r : Region) (k : Slot) : Option Content :=
  match r.presentation with
  | .none => none
  | .fallback =>
    some { kind := .solid, owner := some r.owner, slot := some k, stream := none, colour := r.fallback }
  | .fill =>
    match r.fill with
    | some .source =>
      some { kind := .source, owner := some r.owner, slot := some k, stream := r.stream, colour := none }
    | some .solid => some { kind := .solid, owner := some r.owner, slot := some k, stream := none, colour := r.colour }
    | none => none

/-- The stacking level: client layers 0 to 15, and above them pinned ranks 0 to 7 (R18, R106). -/
def Region.level (r : Region) : Nat := if r.pinned then 16 + r.rank.getD 0 else r.layer.getD 0

/-- The candidate that a slot's region is, if its presentation is FILL or FALLBACK (R104). -/
def Region.candidate (r : Region) (k : Slot) : Option Candidate :=
  match r.rect, r.content k with
  | some q, some c => some { rect := q, level := r.level, pinned := r.pinned, content := c }
  | _, _ => none

/-- The candidate set of the table (R104). -/
def State.candidates (s : State) : List Candidate := slots.filterMap (fun k => s.table[k].bind (fun r => r.candidate k))

/-- What a resolve started now reads, with the epoch handed to it (R99, R107). -/
def State.resolveJob (s : State) (epoch : Word16) : ResolveJob :=
  { epoch := epoch, width := s.scan.width, height := s.scan.height, background := s.scan.background,
    candidates := s.candidates }

/-- A material VBLANK commit abandons a resolve or discards a ready back plan and starts afresh (R91, R98, R99). -/
def State.startResolve (s : State) (epoch : Word16) : State := { s with resolver := .resolving (s.resolveJob epoch) }

/-! ### The ownership map -/

/-- Does the candidate cover the pixel (R106)? -/
def Candidate.covers (c : Candidate) (x y : Nat) : Bool :=
  decide (c.rect.x0 ≤ x) && decide (x < c.rect.x1) && decide (c.rect.y0 ≤ y) && decide (y < c.rect.y1)

/-- The candidate of the two that stands higher, the first of equals. -/
def higher (best : Option Candidate) (c : Candidate) : Option Candidate :=
  match best with
  | none => some c
  | some b => if b.level < c.level then some c else some b

/-- The topmost of the candidates that cover a pixel (R106). Its uniqueness is R16 and R18; between equal levels, which no
run reaches, the first in slot order is taken (DESIGN CHOICE, log 13, safe). -/
def topmost (cs : List Candidate) (x y : Nat) : Option Candidate :=
  (cs.filter (fun c => c.covers x y)).foldl higher none

/-- The ownership map: the content of a pixel (R106). -/
def contentAt (cs : List Candidate) (background : Colour) (x y : Nat) : Content :=
  match topmost cs x y with
  | some c => c.content
  | none => backgroundContent background

/-! ### Cutting and merging -/

/-- A value put into an ascending list, taken once. -/
def insertCut (a : Nat) : List Nat → List Nat
  | [] => [a]
  | b :: l => if a < b then a :: b :: l else if a = b then b :: l else b :: insertCut a l

/-- Cut values in ascending order, each taken once (R110, R111). -/
def sortCuts (l : List Nat) : List Nat := l.foldr insertCut []

/-- Consecutive cuts bound the elementary intervals (R110, R111). -/
def intervals (l : List Nat) : List (Nat × Nat) := l.zip l.tail

/-- The y-cuts of a resolve: 0, H and the y0 and y1 of every candidate (R110). -/
def yCuts (cs : List Candidate) (h : Nat) : List Nat :=
  sortCuts (0 :: h :: cs.flatMap (fun c => [c.rect.y0, c.rect.y1]))

/-- The candidates that cover the elementary band beginning at line y (R110). -/
def coveringLine (cs : List Candidate) (y : Nat) : List Candidate :=
  cs.filter (fun c => decide (c.rect.y0 ≤ y) && decide (y < c.rect.y1))

/-- The x-cuts of the elementary band beginning at line y: 0, W and the x0 and x1 of every candidate that covers it
(R111). -/
def xCuts (cs : List Candidate) (w y : Nat) : List Nat :=
  sortCuts (0 :: w :: (coveringLine cs y).flatMap (fun c => [c.rect.x0, c.rect.x1]))

/-- The elementary spans of the elementary band beginning at line y (R111). -/
def elementarySpans (cs : List Candidate) (background : Colour) (w y : Nat) : List Span :=
  (intervals (xCuts cs w y)).map (fun p => { x0 := p.1, x1 := p.2, content := contentAt cs background p.1 y })

/-- Runs of adjacent spans with equal contents become one span (R112). -/
def mergeSpans : List Span → List Span
  | [] => []
  | a :: l =>
    match mergeSpans l with
    | [] => [a]
    | b :: m => if a.content = b.content then { a with x1 := b.x1 } :: m else a :: b :: m

/-- Runs of adjacent bands with equal span lists become one band (R113). -/
def mergeBands : List Band → List Band
  | [] => []
  | a :: l =>
    match mergeBands l with
    | [] => [a]
    | b :: m => if a.spans = b.spans then { a with y1 := b.y1 } :: m else a :: b :: m

/-- The bands of the plan of an ownership map (R110 to R113). -/
def buildBands (cs : List Candidate) (background : Colour) (w h : Nat) : List Band :=
  mergeBands
    ((intervals (yCuts cs h)).map (fun p =>
      { y0 := p.1, y1 := p.2, spans := mergeSpans (elementarySpans cs background w p.1) }))

/-- How many spans the bands hold together (R109, R114). -/
def spanCount (bs : List Band) : Nat := (bs.map (fun b => b.spans.length)).sum

/-- Are the bands within the limits of a plan (R114)? -/
def withinLimits (bs : List Band) : Bool :=
  decide (bs.length ≤ Config.bandLimit) && decide (spanCount bs ≤ Config.spanLimit)

/-- The plan a resolve completes with: the full plan where it is within the limits, else the reduced plan of the pinned
candidates and the background (R114, R115, R118). -/
def ResolveJob.plan (j : ResolveJob) : Plan :=
  let full := buildBands j.candidates j.background j.width j.height
  if withinLimits full then
    { epoch := j.epoch, status := .full, width := j.width, height := j.height, bands := full }
  else
    { epoch := j.epoch, status := .reduced, width := j.width, height := j.height,
      bands := buildBands (j.candidates.filter (fun c => c.pinned)) j.background j.width j.height }

/-- Resolve completion: RESOLVING becomes READY with the whole back plan; it does not arise in IDLE or READY (R98, R101;
DESIGN CHOICE, log 1, safe). -/
def State.completeResolve (s : State) : State :=
  match s.resolver with
  | .resolving j => { s with resolver := .ready j.plan }
  | .idle => s
  | .ready _ => s

/-- A resolve completes (R101). -/
def execResolveCompletion (s : State) : Result := .next s.completeResolve

end Sys2Proof.Machine
end

