-- ==== Sys2Proof/Machine/Commit.lean ====
section
/-! DEFINITION. The frame commit in its five parts, and the commands COMMIT, LEASE_LAPSE and GRACE_RETIRE (chapter 4). -/

namespace Sys2Proof.Machine

/-! ### Part 1: pool application (R72 to R77) -/

/-- The owner's stream: stream n for Cn (R5). -/
def ownStream : Session → Option Nat
  | .client n => some n.val
  | .sup => none

/-- A NEW entry makes its region LIVE with the entry's fields, a full remaining count and the awaiting flag (R73). -/
def applyNew (f : StagedFields) (r : Region) : Region :=
  { r with
    state := .live
    rect := f.rect
    layer := f.layer
    fill := f.fill
    stream := if f.fill = some .source then ownStream r.owner else none
    colour := if f.fill = some .solid then f.colour else none
    fallback :=
      match f.fallback with
      | .set c => some c
      | .untouched => none
      | .remove => none
    lease := f.lease
    remaining := f.lease
    graceLeft := none
    awaiting := true }

/-- A PIN entry makes its pinned region LIVE (R74). -/
def applyPin (f : StagedFields) (r : Region) : Region :=
  { r with
    state := .live
    rect := f.rect
    rank := f.rank
    fill := f.fill
    stream := if f.fill = some .source then f.stream else none
    colour := if f.fill = some .solid then f.colour else none
    awaiting := true }

/-- An AMEND entry replaces the active fields it carries; fill, stream and colour are one unit, and a carried lease sets
remaining (R75). -/
def applyAmend (f : StagedFields) (r : Region) : Region :=
  { r with
    rect := f.rect.or r.rect
    layer := f.layer.or r.layer
    fill := f.fill.or r.fill
    stream :=
      match f.fill with
      | some .solid => none
      | some .source => if r.pinned then f.stream else ownStream r.owner
      | none => f.stream.or r.stream
    colour :=
      match f.fill with
      | some .solid => f.colour
      | some .source => none
      | none => f.colour.or r.colour
    fallback :=
      match f.fallback with
      | .set c => some c
      | .remove => none
      | .untouched => r.fallback
    lease := f.lease.or r.lease
    remaining := f.lease.or r.remaining
    awaiting := true }

/-- A REVIVE entry makes its LAPSED region LIVE again (R76). -/
def applyRevive (r : Region) : Region :=
  { r with state := .live, remaining := r.lease, graceLeft := none, awaiting := true }

/-- One pool entry applied to its own slot (R72). -/
def applyEntry (s : State) (e : PoolEntry) : State :=
  match s.table[e.slot] with
  | none => s
  | some r =>
    match e.kind with
    | .new => s.putRegion e.slot (applyNew e.fields r)
    | .pin => s.putRegion e.slot (applyPin e.fields r)
    | .amend => s.putRegion e.slot (applyAmend e.fields r)
    | .revive => s.putRegion e.slot (applyRevive r)
    | .release => s.freeRegion e.slot r.owner
    | .unpin => s.freeRegion e.slot r.owner

/-- Every entry applied, oldest first, leaving the pool empty (R72). -/
def State.applyPool (s : State) : State := { s.pool.foldl applyEntry s with pool := [] }

/-! ### Part 2: session application (R78, R79) -/

/-- A DRAIN frees every region of the client, empties its Tag Map, clears its cursor and makes it DETACHED with its evicted
mark as it was (R79). -/
def State.drain (s : State) (x : Session) : State :=
  { s with
    table := s.table.map (fun o => o.bind (fun r => if r.owner = x then none else some r))
    shown := Vector.ofFn (fun k => s.shown[k] && !s.ownedBy x k)
    tagMaps := s.tagMaps.set x []
    sessions := s.sessions.set x { s.sessions.get x with state := .detached, pending := .noChange, cursor := none } }

/-- One client's pending change applied and set to none (R78). -/
def applyPending (s : State) (n : Client) : State :=
  match (s.sessions.get (.client n)).pending with
  | .noChange => s
  | .suspend => s.mapSession (.client n) (fun r => { r with state := .suspended, pending := .noChange })
  | .resume => s.mapSession (.client n) (fun r => { r with state := .attached, pending := .noChange })
  | .drain => s.drain (.client n)

/-- Session application over the four clients (R78). -/
def State.applySessions (s : State) : State := clients.foldl applyPending s

/-- How many clients have a pending change (R94). -/
def State.pendingChanges (s : State) : Nat :=
  (clients.filter (fun n => decide ((s.sessions.get (.client n)).pending ≠ .noChange))).length

/-! ### Part 3: the lease count (R80 to R86) -/

/-- The slots that the lease count of a commit exempts: those made LIVE by a NEW or REVIVE entry, and those whose lease an
AMEND entry replaced (R80). -/
def PoolEntry.exempts (e : PoolEntry) : Bool :=
  match e.kind with
  | .new => true
  | .revive => true
  | .amend => e.fields.lease.isSome
  | .pin => false
  | .release => false
  | .unpin => false

/-- Is the slot exempt from the lease count of the commit that applies the pool (R80)? -/
def poolExempts (pool : List PoolEntry) (k : Slot) : Bool := pool.any (fun e => decide (e.slot = k) && e.exempts)

/-- What the lease count does with a slot. -/
inductive Counted where
  | free
  | kept (r : Region)
  | lapsed (r : Region)
  | retired (lapsedToo : Bool)
  deriving DecidableEq, Repr

/-- A region whose remaining count is taken to 0: LAPSED with the configured grace, or retired at once where the grace is 0
(R81, R83). -/
def lapse (grace : Nat) (r : Region) : Counted :=
  if grace = 0 then .retired true
  else .lapsed { r with state := .lapsed, remaining := some 0, graceLeft := some grace }

/-- The lease count of one region, by whether its slot is exempt, its owner's state after session application, and the
configured grace (R80 to R84). -/
def countRegion (exempt : Bool) (owner : SessionState) (grace : Nat) (r : Region) : Counted :=
  if r.pinned || decide (owner ≠ .attached) then .kept r
  else
    match r.state with
    | .live =>
      if exempt then .kept r
      else
        match r.remaining with
        | none => .kept r
        | some n => if n ≤ 1 then lapse grace r else .kept { r with remaining := some (n - 1) }
    | .lapsed =>
      match r.graceLeft with
      | none => .kept r
      | some g => if g ≤ 1 then .retired false else .kept { r with graceLeft := some (g - 1) }
    | .stagedNew => .kept r
    | .retiring => .kept r

/-- The lease count of one slot. `pool` is the pool that the commit applied. -/
def State.countSlot (s : State) (pool : List PoolEntry) (k : Slot) : Counted :=
  match s.table[k] with
  | none => .free
  | some r => countRegion (poolExempts pool k) (s.sessions.get r.owner).state s.scan.grace r

/-- The record a counted slot holds afterwards. -/
def Counted.record : Counted → Option Region
  | .free => none
  | .kept r => some r
  | .lapsed r => some r
  | .retired _ => none

/-- The Tag Map entry of a counted slot afterwards: LAPSED and RETIRED are set, and a retired region's entry loses its slot
(R81, R82, R83). -/
def countEntry (c : Slot → Counted) (e : TagEntry) : TagEntry :=
  match e.slot with
  | none => e
  | some k =>
    match c k with
    | .free => e
    | .kept _ => e
    | .lapsed _ => { e with notices := e.notices.withLapsed }
    | .retired l =>
      { e with slot := none, notices := (if l then e.notices.withLapsed else e.notices).withRetired }

/-- Did the count lapse or retire the region of the slot? -/
def Counted.expired : Counted → Bool
  | .free => false
  | .kept _ => false
  | .lapsed _ => true
  | .retired _ => true

/-- Did the count retire the region of the slot? -/
def Counted.isRetired : Counted → Bool
  | .retired _ => true
  | .free => false
  | .kept _ => false
  | .lapsed _ => false

/-- The lease count of a VBLANK commit over the whole table (R80 to R84). -/
def State.countLeases (s : State) (pool : List PoolEntry) : State :=
  { s with
    table := Vector.ofFn (fun k => (s.countSlot pool k).record)
    shown := Vector.ofFn (fun k => s.shown[k] && !(s.countSlot pool k).isRetired)
    tagMaps := PerSession.make (fun x => (s.tagMaps.get x).map (countEntry (s.countSlot pool))) }

/-- How many regions the lease count lapses or retires (R90). -/
def State.expiries (s : State) (pool : List PoolEntry) : Nat :=
  (slots.filter (fun k => (s.countSlot pool k).expired)).length

/-- Does a session own a LIVE region? -/
def State.hasLive (s : State) (x : Session) : Bool := slots.any (s.ownedIn x .live)

/-- Does a session own a non-FREE region? -/
def State.hasRegion (s : State) (x : Session) : Bool := slots.any (s.ownedBy x)

/-- CLIENT_LAPSED names each client that owned a LIVE region when the commit began, and after the lease count owns a region
but none LIVE (R86). `before` is the state in which the commit began. -/
def State.raiseLapsed (before s : State) : State :=
  clients.foldl
    (fun t n =>
      t.raiseIf (before.hasLive (.client n) && s.hasRegion (.client n) && !s.hasLive (.client n)) (.clientLapsed n))
    s

/-! ### Part 4: presentation (R7, R89) -/

/-- The presentation of a region by its state, its class, its owner's session state and its fallback (R7). -/
def presentationOf (owner : SessionState) (r : Region) : Presentation :=
  match r.state with
  | .stagedNew => .none
  | .lapsed => .none
  | .retiring => r.presentation
  | .live =>
    if r.pinned then .fill
    else
      match owner with
      | .attached => .fill
      | .suspended => if r.fallback.isSome then .fallback else .none
      | .detached => .none
      | .draining => .none

/-- The presentation part (R89). -/
def State.present (s : State) : State :=
  { s with
    table := s.table.map (fun o =>
      o.map (fun r => { r with presentation := presentationOf (s.sessions.get r.owner).state r })) }

/-- Every present walk cursor is marked (R93, R182). -/
def State.markCursors (s : State) : State :=
  { s with
    sessions := PerSession.make (fun x =>
      { s.sessions.get x with cursor := (s.sessions.get x).cursor.map (fun c => { c with changed := true }) }) }

/-! ### Whole commits -/

/-- The slots that become FREE in parts 1 and 2 (R94). -/
def State.freedBy (s t : State) : Nat :=
  (slots.filter (fun k => s.table[k].isSome && t.table[k].isNone)).length

/-- Parts 1 and 2: the table and the sessions that the lease count reads (R71). -/
def State.staged2 (s : State) : State := s.applyPool.applySessions

/-- A VBLANK commit, parts 1 to 4 and the cursor marks (R71, R93). -/
def State.commitParts (s : State) : State :=
  let t := s.staged2
  ((s.raiseLapsed (t.countLeases s.pool)).present).markCursors

/-- Is a VBLANK commit material (R90)? -/
def State.commitMaterial (s : State) : Bool :=
  !s.pool.isEmpty || decide (0 < s.pendingChanges) || decide (0 < s.staged2.expiries s.pool) || s.scan.firstCommit

/-- A VBLANK commit that carries a frame number: parts 1 to 5. A material one clears the first-commit mark as it starts its
resolve, and a quiet one leaves the Resolver (R71, R91, R146). -/
def State.vblankCommit (s : State) (frame : Word16) : State :=
  let t := s.commitParts
  if s.commitMaterial then { t.startResolve frame with scan := { t.scan with firstCommit := false } } else t

/-- A FORCE_COMMIT's parts: no lease count and no resolve (R95). -/
def State.forceParts (s : State) : State := (s.staged2.present).markCursors

/-- The commit summary of a FORCE_COMMIT (R94). -/
def State.forceSummary (s : State) : CommitSummary :=
  { frame := s.scan.frame
    applied := s.pool.length
    sessionChanges := s.pendingChanges
    freed := s.freedBy s.staged2
    material := !s.pool.isEmpty || decide (0 < s.pendingChanges) || s.scan.firstCommit }

/-- The TC takes the oldest commit waiting for it (R69); with none waiting a commit does not arise (DESIGN CHOICE, log 1,
safe). -/
def State.takeCommit (s : State) : State :=
  match s.commitsDue with
  | [] => s
  | f :: rest => ({ s with commitsDue := rest }).vblankCommit f

/-- The TC takes the oldest `n` commits waiting for it, each whole, in the order they were handed over (R69). -/
def State.takeCommits : Nat → State → State
  | 0, s => s
  | n + 1, s => State.takeCommits n s.takeCommit

/-- The state once no commit waits any more (R69). -/
def State.settled (s : State) : State := s.takeCommits s.commitsDue.length

/-- The TC takes a commit (R71). -/
def execCommit (s : State) : Result := .next s.takeCommit

/-- Does the lease count of the next commit take the remaining count of the slot's region to 0 (R81, R83)? -/
def State.lapsesAt (s : State) (k : Slot) : Bool :=
  match s.staged2.countSlot s.pool k with
  | .lapsed _ => true
  | .retired l => l
  | .free => false
  | .kept _ => false

/-- Does the grace count of the next commit take the grace_left of the slot's region to 0 (R82)? -/
def State.graceEndsAt (s : State) (k : Slot) : Bool :=
  match s.staged2.countSlot s.pool k with
  | .retired l => !l
  | .lapsed _ => false
  | .free => false
  | .kept _ => false

/-- LEASE_LAPSE of a slot: the commit that lapses the region there, taken whole. The lapse happens only inside a commit, so
where the waiting commit does not lapse the region the happening does not occur (R70, R81; DESIGN CHOICE, log 4, safe). -/
def execLeaseLapse (slot : Slot) (s : State) : Result := .next (if s.lapsesAt slot then s.takeCommit else s)

/-- GRACE_RETIRE of a slot: the commit whose grace count retires the region there, taken whole (R70, R82; DESIGN CHOICE,
log 4, safe). -/
def execGraceRetire (slot : Slot) (s : State) : Result := .next (if s.graceEndsAt slot then s.takeCommit else s)

end Sys2Proof.Machine
end

