-- ==== Sys2Proof/Machine/Plans.lean ====
section
/-! DEFINITION. The Plan Store and the frame path: the swap, VBLANK, FSTART and PROBE (chapters 6 and 7). -/

namespace Sys2Proof.Machine

/-! ### The swap (R125 to R131) -/

/-- The VISIBILITY notice of a swap for a region, by its mark before and whether the new plan shows it (R127). -/
def visibilityChange (mark shows : Bool) : Option Visibility :=
  match mark, shows with
  | false, true => some .shown
  | true, false => some .hidden
  | false, false => none
  | true, true => none

/-- The notice set of a non-FREE region after a swap that installs a plan (R127, R128). -/
def swapNotices (awaiting : Bool) (change : Option Visibility) (n : NoticeSet) : NoticeSet :=
  let m := if awaiting then n.withApplied else n
  match change with
  | some v => m.withVisibility v
  | none => m

/-- A Tag Map entry after a swap that installs the plan: entries without a slot gain nothing (R126, R163). -/
def State.swapEntry (s : State) (p : Plan) (e : TagEntry) : TagEntry :=
  match e.slot with
  | none => e
  | some k =>
    match s.table[k] with
    | none => e
    | some r => { e with notices := swapNotices r.awaiting (visibilityChange s.shown[k] (p.shows k)) e.notices }

/-- Does the swap set a notice in a SUP entry whose notice set was empty (R130)? -/
def State.swapWakesSup (s : State) (p : Plan) : Bool :=
  (s.tagMaps.get .sup).any (fun e => e.notices.isEmpty && !(s.swapEntry p e).notices.isEmpty)

/-- PRIMING ends at the first swap that installs a plan (R131). -/
def afterInstall : ScanState → ScanState
  | .stopped => .stopped
  | .priming => .running
  | .running => .running
  | .hold => .hold

/-- The installation of the back plan as the front plan, with its marks, notices and alerts (R126 to R131). -/
def State.install (s : State) (p : Plan) : State :=
  let t : State :=
    { s with
      front := some p
      resolver := .idle
      tagMaps := PerSession.make (fun x => (s.tagMaps.get x).map (s.swapEntry p))
      shown := Vector.ofFn (fun k => s.table[k].isSome && p.shows k)
      table := s.table.map (fun o => o.map (fun r => { r with awaiting := false }))
      scan := { s.scan with state := afterInstall s.scan.state } }
  (t.raiseIf (decide (p.status = .reduced)) .planReduced).raiseIf (s.swapWakesSup p) .pinNotice

/-- The swap the Plan Store takes for an FSTART passed on, by the Resolver state (R125). -/
def State.swap (s : State) : State :=
  match s.resolver with
  | .ready p => s.install p
  | .resolving _ => s.raise .planLate
  | .idle => s

/-! ### The sync lines (R151 to R155) -/

/-- Does a VBLANK in the scan state hand a commit to the TC (R153)? -/
def commits : ScanState → Bool
  | .stopped => false
  | .priming => true
  | .running => true
  | .hold => false

/-- A VBLANK edge: ignored in STOPPED; otherwise SYNC_ORDER is raised if FSTART was expected, the frame number is raised,
the expectation becomes FSTART, and in PRIMING and RUNNING a commit with the raised number is handed to the TC (R153).
While RESET_N is low no sync line is taken (R202). -/
def State.takeVblank (s : State) : State :=
  if s.resetLow || decide (s.scan.state = .stopped) then s
  else
    let t := s.raiseIf (decide (s.scan.expect = .fstart)) .syncOrder
    let f := s.scan.frame + 1
    { t with
      scan := { s.scan with frame := f, expect := .fstart }
      commitsDue := if commits s.scan.state then s.commitsDue ++ [f] else s.commitsDue }

/-- An FSTART edge: ignored in STOPPED; passed to the Plan Store as a swap when expected, and then the expectation is VBLANK;
otherwise SYNC_ORDER is raised and it is not passed on (R154). A commit handed over before the FSTART is taken before its
swap, and a material one makes the swap late (R155; DEDUCED, log 5, safe). -/
def State.takeFstart (s : State) : State :=
  if s.resetLow || decide (s.scan.state = .stopped) then s
  else
    match s.scan.expect with
    | .vblank => s.raise .syncOrder
    | .fstart =>
      let t := s.settled
      ({ t with scan := { t.scan with expect := .vblank } }).swap

/-- A rising edge of VBLANK (R153). -/
def execVblank (s : State) : Result := .next s.takeVblank

/-- A rising edge of FSTART (R154). -/
def execFstart (s : State) : Result := .next s.takeFstart

/-! ### PROBE (R139, R140) -/

/-- The band that contains a line (R108, R136). -/
def Plan.bandAt (p : Plan) (y : Nat) : Option Band := p.bands.find? (fun b => decide (b.y0 ≤ y) && decide (y < b.y1))

/-- The span of a band that contains a column (R108, R139). -/
def Band.spanAt (b : Band) (x : Nat) : Option Span := b.spans.find? (fun sp => decide (sp.x0 ≤ x) && decide (x < sp.x1))

/-- The slot, tag and stale flag of a PROBE, by the span's owner and the region now in the span's slot (R140). -/
def State.probeNames (s : State) (x : Session) (c : Content) : Option Slot × Option Word16 × Bool :=
  if c.owner ≠ some x then (none, none, false)
  else
    match c.slot with
    | none => (none, none, false)
    | some k => if s.shown[k] then (some k, s.table[k].map (fun r => r.tag), false) else (some k, none, true)

/-- What PROBE reports of a pixel; none with no front plan (R139). -/
def State.probeReport (s : State) (p : Session) (x y : Nat) : Option ProbeReport :=
  s.front.bind (fun plan =>
    (plan.bandAt y).bind (fun b =>
      (b.spanAt x).map (fun sp =>
        let names := s.probeNames p sp.content
        { epoch := plan.epoch, status := plan.status, y0 := b.y0, y1 := b.y1, x0 := sp.x0, x1 := sp.x1,
          kind := sp.content.kind, owner := sp.content.owner, slot := names.1, tag := names.2.1, stale := names.2.2 })))

/-- PROBE (R139). -/
def probeRequest (p : Port) (x y : Word16) (s : State) : State × Reply :=
  match s.sessionRefusal p .read with
  | some c => refuse s c
  | none =>
    if !s.configured then refuse s .notConfigured
    else if s.scan.width ≤ x.toNat ∨ s.scan.height ≤ y.toNat then refuse s .outOfBounds
    else accept s (.probe (s.probeReport p x.toNat y.toNat))

/-- The TC takes a PROBE (R139). -/
def execProbe (port : Port) (seq : Byte) (x y : Word16) (s : State) : Result :=
  .next (s.serve port ⟨seq, .probe x y⟩ (probeRequest port x y))

end Sys2Proof.Machine
end

