-- ==== Sys2Proof/Machine/LinkQueries.lean ====
section
/-! DEFINITION. The scan link: PLAN, LINE, BAND and unknown queries, and the end of an answer (chapter 6, R201). -/

namespace Sys2Proof.Machine

/-- A query of the code arrives: taken whole when the interface is IDLE, with the answer it forms fixed; refused when it is
ANSWERING, and a LINK_BUSY answer for its code is then owed (R133, R134). While RESET_N is low no query is taken (R202). -/
def State.query (s : State) (code : Byte) (form : State → Answer) : State :=
  if s.resetLow then s
  else
    match s.link with
    | .idle => { s with link := .answering (form s) [] }
    | .answering a owed => { s with link := .answering a (owed ++ [code]) }

/-- The codes of the three queries (R201). -/
def planCode : Byte := 0x01#8

/-- The code of LINE (R201). -/
def lineCode : Byte := 0x02#8

/-- The code of BAND (R201). -/
def bandCode : Byte := 0x03#8

/-- The answer to PLAN (R135). -/
def State.planAnswer (s : State) : Answer :=
  match s.front with
  | none => .noPlan planCode
  | some p => .plan p.epoch p.status p.bands.length p.width p.height

/-- The answer to a band query that names the band of the index: the band, or RANGE where there is none (R136, R137). -/
def Plan.bandAnswer (p : Plan) (code : Byte) (i : Nat) : Answer :=
  match p.bands[i]? with
  | some b => .band code p.epoch i b
  | none => .range code

/-- The index of the band that contains a line; past the last band where none does (R136). -/
def Plan.bandIndex (p : Plan) (y : Nat) : Nat := p.bands.findIdx (fun b => decide (b.y0 ≤ y) && decide (y < b.y1))

/-- The answer to LINE: NO_PLAN is decided first, then RANGE at or above the plan's H (R136). -/
def State.lineAnswer (s : State) (y : Nat) : Answer :=
  match s.front with
  | none => .noPlan lineCode
  | some p => if p.height ≤ y then .range lineCode else p.bandAnswer lineCode (p.bandIndex y)

/-- The answer to BAND (R137). -/
def State.bandQueryAnswer (s : State) (i : Nat) : Answer :=
  match s.front with
  | none => .noPlan bandCode
  | some p => p.bandAnswer bandCode i

/-- The answer has been sent with every LINK_BUSY answer owed after it, and the interface is IDLE (R133). -/
def State.answerSent (s : State) : State := { s with link := .idle }

/-- A PLAN query (R135). -/
def execPlanQuery (s : State) : Result := .next (s.query planCode State.planAnswer)

/-- A LINE query (R136). -/
def execLineQuery (y : Word16) (s : State) : Result := .next (s.query lineCode (fun t => t.lineAnswer y.toNat))

/-- A BAND query (R137). -/
def execBandQuery (index : Byte) (s : State) : Result := .next (s.query bandCode (fun t => t.bandQueryAnswer index.toNat))

/-- A query of any other code is answered RANGE, plan or no plan (R201). A code of the three is no unknown query (DESIGN
CHOICE, log 1, safe). -/
def execUnknownQuery (code : Byte) (s : State) : Result :=
  .next
    (if code = planCode ∨ code = lineCode ∨ code = bandCode then s else s.query code (fun _ => .range code))

/-- The last byte of the answer and of the LINK_BUSY answers owed has been sent (R133). -/
def execAnswerSent (s : State) : Result := .next s.answerSent

end Sys2Proof.Machine
end

