-- ==== Sys2Proof/Machine/Notices.lean ====
section
/-! DEFINITION. FETCH_NOTICES, FETCH_ALERTS and SET_ALERT_MASK (chapter 8). -/

namespace Sys2Proof.Machine

/-- The entries that FETCH_NOTICES delivers from a map: the first 8 with non-empty notice sets, in tag order (R166). -/
def delivered (m : List TagEntry) : List TagEntry := (m.filter (fun e => !e.notices.isEmpty)).take Config.fetchLimit

/-- A map after FETCH_NOTICES, where at most `n` more entries are delivered: a delivered entry's set is cleared, and a
delivered entry without a slot is removed (R167). -/
def fetchMap : Nat → List TagEntry → List TagEntry
  | _, [] => []
  | 0, e :: m => e :: m
  | n + 1, e :: m =>
    if e.notices.isEmpty then e :: fetchMap (n + 1) m
    else
      match e.slot with
      | none => fetchMap n m
      | some _ => { e with notices := NoticeSet.empty } :: fetchMap n m

/-- FETCH_NOTICES (R166, R167). -/
def fetchNoticesRequest (p : Port) (s : State) : State × Reply :=
  match s.sessionRefusal p .fetch with
  | some c => refuse s c
  | none =>
    let out := delivered (s.tagMaps.get p)
    let t := s.mapTags p (fetchMap Config.fetchLimit)
    acceptWith t (.notices out.length (mapHasNotices (t.tagMaps.get p))) (out.map .notice)

/-- FETCH_ALERTS: the pending set is delivered and emptied, and PIN_NOTICE is raised again while a SUP entry holds notices
(R175). -/
def fetchAlertsRequest (s : State) : State × Reply :=
  let t := { s with alerts := s.alerts.cleared }
  accept (t.raiseIf s.supHasNotices .pinNotice)
    (.alerts s.alerts.pending s.alerts.clients s.alerts.ports s.alerts.mask s.supHasNotices)

/-- SET_ALERT_MASK (R176). -/
def setAlertMaskRequest (mask : Byte) (s : State) : State × Reply :=
  match alertMaskOf mask with
  | none => refuse s .badRequest
  | some m => accept { s with alerts := { s.alerts with mask := m } } (.alertMask m s.alerts.pending)

/-- The TC takes a FETCH_NOTICES (R166). -/
def execFetchNotices (port : Port) (seq : Byte) (s : State) : Result :=
  .next (s.serve port ⟨seq, .fetchNotices⟩ (fetchNoticesRequest port))

/-- The TC takes a FETCH_ALERTS (R175). -/
def execFetchAlerts (port : Port) (seq : Byte) (s : State) : Result :=
  .next (s.serve port ⟨seq, .fetchAlerts⟩ fetchAlertsRequest)

/-- The TC takes a SET_ALERT_MASK (R176). -/
def execSetAlertMask (port : Port) (seq mask : Byte) (s : State) : Result :=
  .next (s.serve port ⟨seq, .setAlertMask mask⟩ (setAlertMaskRequest mask))

end Sys2Proof.Machine
end

