-- ==== Sys2Proof/Machine/Ports.lean ====
section
/-! DEFINITION. The port events: select, command byte, header, body, read and status byte (chapter 10). Each acts on its own
port; while RESET_N is low no transaction byte is taken (R202). -/

namespace Sys2Proof.Machine

/-- The port's transaction state replaced. -/
def State.setTransaction (s : State) (p : Port) (t : Transaction) : State :=
  s.mapPort p (fun q => { q with transaction := t })

/-- The port's transaction state. -/
def State.transactionOf (s : State) (p : Port) : Transaction := (s.ports.get p).transaction

/-- Select falls: an idle port enters COMMAND (R189). Under a low RESET_N the port goes to IGNORING until its select rises
(R202; DEDUCED, log 8, unsafe). A port already selected sees no fall (DESIGN CHOICE, log 1, safe). -/
def State.selectFall (s : State) (p : Port) : State :=
  match s.transactionOf p with
  | .idle => s.setTransaction p (if s.resetLow then .ignoring else .command)
  | .command | .header _ | .body _ _ _ | .status _ | .sending _ _ | .ignoring => s

/-- The command byte 01h: the port enters HEADER (R189). -/
def State.writeCommand (s : State) (p : Port) : State :=
  match s.resetLow, s.transactionOf p with
  | false, .command => s.setTransaction p (.header [])
  | _, _ => s

/-- The transaction state a read enters: it fixes the head of the queue, or sends EMPTY and ignores (R194). -/
def readEntry (queue : List Response) : Transaction :=
  match queue with
  | [] => .ignoring
  | r :: _ => .sending r true

/-- The command byte 02h (R189, R194). -/
def State.readCommand (s : State) (p : Port) : State :=
  match s.resetLow, s.transactionOf p with
  | false, .command => s.setTransaction p (readEntry (s.ports.get p).responses)
  | _, _ => s

/-- Any other command byte: the port enters IGNORING and FRAMING is raised naming it (R189). -/
def State.badCommand (s : State) (p : Port) : State :=
  match s.resetLow, s.transactionOf p with
  | false, .command => (s.setTransaction p .ignoring).raise (.framing p)
  | _, _ => s

/-- The kind a header names when the framing checks pass: the kind is in the table and the length is its own (R191). -/
def headerKind (kind length : Byte) : Option Kind :=
  (kindOfCode kind).filter (fun k => decide (k.bodyLength = length.toNat))

/-- The decision of a request against the buffer as it stands (R190). -/
def PortState.decideRequest (q : PortState) (r : Request) : PortState :=
  if q.buffer.length < Config.bufferCapacity then
    { q with buffer := q.buffer ++ [r], transaction := .status .accepted }
  else { q with transaction := .status .full }

/-- The port with the body bytes received so far: at the last of them, or at once where the kind has no body, the request is
decided, and until then they are held in BODY (R188, R190). More bytes than the length names are not received (DESIGN CHOICE,
log 1, safe). -/
def PortState.receiveBody (q : PortState) (k : Kind) (seq : Byte) (received : List Byte) : PortState :=
  match callOfBytes k received with
  | some c => q.decideRequest ⟨seq, c⟩
  | none => if received.length < k.bodyLength then { q with transaction := .body k seq received } else q

/-- A header of three bytes: BODY, or the decision of a kind without a body, when the framing checks pass; else STATUS with
FRAMING, and the alert naming the port (R190, R191). -/
def State.endHeader (s : State) (p : Port) (kind seq length : Byte) : State :=
  match headerKind kind length with
  | some k => s.mapPort p (fun q => q.receiveBody k seq [])
  | none => (s.setTransaction p (.status .framing)).raise (.framing p)

/-- The third header byte arrives, of a header that begins with the bytes held (R190, R191). -/
def State.checkHeader (s : State) (p : Port) (kind seq length : Byte) : State :=
  match s.resetLow, s.transactionOf p with
  | false, .header held => if held.isPrefixOf [kind, seq, length] then s.endHeader p kind seq length else s
  | _, _ => s

/-- Bytes of the message arrive: in BODY as R190 gives; in HEADER those before the third are held (R188). The third ends the
header, which is the command HEADER_FRAMING_CHECK (DESIGN CHOICE, log 6, safe). -/
def State.receiveBytes (s : State) (p : Port) (bytes : List Byte) : State :=
  match s.resetLow, s.transactionOf p with
  | false, .header held =>
    if (held ++ bytes).length < 3 then s.setTransaction p (.header (held ++ bytes)) else s
  | false, .body k q held => s.mapPort p (fun t => t.receiveBody k q (held ++ bytes))
  | _, _ => s

/-- The last byte of a response has been clocked out: the response leaves the queue, unless a SOFT_RESET has already removed
it, and the port enters IGNORING (R194). -/
def State.finishResponse (s : State) (p : Port) : State :=
  match s.resetLow, s.transactionOf p with
  | false, .sending _ queued =>
    s.mapPort p (fun q =>
      { q with responses := if queued then q.responses.tail else q.responses, transaction := .ignoring })
  | _, _ => s

/-- Select rises: the transaction ends in any state, a partial message is dropped and a response not wholly sent stays at the
head of its queue (R189, R192). The level of a select is followed under a low RESET_N too (R188). -/
def State.selectRise (s : State) (p : Port) : State := s.setTransaction p .idle

/-- The status byte has been clocked out: the port enters IGNORING (R190). -/
def State.statusSent (s : State) (p : Port) : State :=
  match s.resetLow, s.transactionOf p with
  | false, .status _ => s.setTransaction p .ignoring
  | _, _ => s

/-- The port's select falls (R189). -/
def execSelectFall (port : Port) (s : State) : Result := .next (s.selectFall port)

/-- The command byte of a write (R189). -/
def execWriteCommand (port : Port) (s : State) : Result := .next (s.writeCommand port)

/-- The command byte of a read (R194). -/
def execReadCommand (port : Port) (s : State) : Result := .next (s.readCommand port)

/-- A command byte other than 01h and 02h (R189). 01h and 02h are no bad command byte (DESIGN CHOICE, log 1, safe). -/
def execBadCommandByte (port : Port) (byte : Byte) (s : State) : Result :=
  .next (if byte = 0x01#8 ∨ byte = 0x02#8 then s else s.badCommand port)

/-- The third header byte (R191). -/
def execHeaderFramingCheck (port : Port) (kind seq length : Byte) (s : State) : Result :=
  .next (s.checkHeader port kind seq length)

/-- Bytes of a message, the last body byte of which decides its request (R190). -/
def execRequestDecision (port : Port) (bytes : List Byte) (s : State) : Result := .next (s.receiveBytes port bytes)

/-- The last byte of a response has been sent (R194). -/
def execResponseSent (port : Port) (s : State) : Result := .next (s.finishResponse port)

/-- The port's select rises (R192). -/
def execSelectRise (port : Port) (s : State) : Result := .next (s.selectRise port)

/-- The status byte of a write has been sent (R190). -/
def execStatusByteSent (port : Port) (s : State) : Result := .next (s.statusSent port)

end Sys2Proof.Machine
end

