-- ==== Sys2Proof/Machine/Scan.lean ====
section
/-! DEFINITION. The scan requests START, HOLD, RESUME_SCAN, STOP, CONFIGURE, FORCE_COMMIT, CLEAR_TABLE and SOFT_RESET,
READ_STATUS, and the pin RESET_N (chapters 7 and 10). -/

namespace Sys2Proof.Machine

/-- A scan request answered OK with the scan report of the state it leaves (R144). -/
def scanReply (s : State) : State × Reply := accept s (.scan s.scanReport)

/-! ### START, HOLD, RESUME_SCAN, STOP -/

/-- START (R145). -/
def startRequest (s : State) : State × Reply :=
  if s.scan.state ≠ .stopped then refuse s .scanState
  else if !s.configured then refuse s .notConfigured
  else scanReply { s with scan := { s.scan with state := .priming, expect := .vblank, firstCommit := true } }

/-- HOLD (R147). -/
def holdRequest (s : State) : State × Reply :=
  if s.scan.state ≠ .running then refuse s .scanState
  else scanReply { s with scan := { s.scan with state := .hold } }

/-- RESUME_SCAN (R148). -/
def resumeScanRequest (s : State) : State × Reply :=
  if s.scan.state ≠ .hold then refuse s .scanState
  else scanReply { s with scan := { s.scan with state := .running } }

/-- The part stopped: no resolve, no plan, no shown mark, the first-commit mark clear; everything else is kept (R149,
R150). -/
def State.stopped (s : State) : State :=
  { s with
    scan := { s.scan with state := .stopped, firstCommit := false }
    resolver := .idle
    front := none
    shown := Vector.replicate 64 false }

/-- STOP, in any scan state (R149). -/
def stopRequest (s : State) : State × Reply := scanReply s.stopped

/-! ### CONFIGURE -/

/-- Does a rectangle reach beyond a panel of the width and height (R157)? -/
def Rect.beyond (q : Rect) (w h : Nat) : Bool := decide (w < q.x1) || decide (h < q.y1)

/-- Does the active rectangle of the slot's region, or the one its entry carries, reach beyond the new panel (R157)? -/
def State.slotBeyond (s : State) (w h : Nat) (k : Slot) : Bool :=
  s.table[k].any (fun r =>
    r.rect.any (fun q => q.beyond w h) || ((s.entryFor k).bind (fun e => e.fields.rect)).any (fun q => q.beyond w h))

/-- The lowest slot whose rectangle fails the geometry check (R156, R157). -/
def State.geometryConflict (s : State) (w h : Nat) : Option Slot := slots.find? (s.slotBeyond w h)

/-- Is a width or height between 16 and 4096 (R156)? -/
def panelSide (n : Nat) : Bool := decide (Config.panelMin ≤ n) && decide (n ≤ Config.panelMax)

/-- CONFIGURE (R156). -/
def configureRequest (width height : Word16) (background : Colour) (grace : Byte) (s : State) : State × Reply :=
  if s.scan.state ≠ .stopped then refuse s .scanState
  else if !(panelSide width.toNat && panelSide height.toNat && decide (grace.toNat ≤ Config.graceMax)) then
    refuse s .badRequest
  else
    match s.geometryConflict width.toNat height.toNat with
    | some k => (s, { code := .geometryConflict, body := .conflict k, records := [] })
    | none =>
      accept
        { s with
          scan :=
            { s.scan with width := width.toNat, height := height.toNat, background := background, grace := grace.toNat } }
        (.configuration width.toNat height.toNat background grace.toNat)

/-! ### FORCE_COMMIT, CLEAR_TABLE, SOFT_RESET -/

/-- FORCE_COMMIT (R95, R158). -/
def forceCommitRequest (s : State) : State × Reply :=
  if s.scan.state ≠ .stopped then refuse s .scanState
  else accept s.forceParts (.committed s.forceSummary)

/-- The table cleared (R23, R159), and in HOLD the picture replaced by the background-only plan (R160). -/
def State.clearTable (s : State) : State :=
  match s.scan.state with
  | .hold =>
    { s.emptied with
      resolver := .idle
      front := some (backgroundPlan s.scan.frame s.scan.width s.scan.height s.scan.background) }
  | .stopped => s.emptied
  | .priming => s.emptied
  | .running => s.emptied

/-- The OK reply of CLEAR_TABLE: the scan report, the regions freed and the pool entries discarded (R159). -/
def clearReply (s : State) : State × Reply :=
  accept s.clearTable (.cleared s.clearTable.scanReport (s.countRegions (fun _ => true)) s.pool.length)

/-- CLEAR_TABLE, taken in STOPPED and HOLD (R144, R159). -/
def clearTableRequest (s : State) : State × Reply :=
  match s.scan.state with
  | .stopped => clearReply s
  | .hold => clearReply s
  | .priming => refuse s .scanState
  | .running => refuse s .scanState

/-- A read in progress goes on sending the response it fixed, which a reset has removed from the queue (R194). -/
def Transaction.detach : Transaction → Transaction
  | .sending r _ => .sending r false
  | .idle => .idle
  | .command => .command
  | .header l => .header l
  | .body k q l => .body k q l
  | .status w => .status w
  | .ignoring => .ignoring

/-- A session record under SOFT_RESET: the limits are kept, the cursor has gone with the table (R41). -/
def softResetSession (r : SessionRecord) : SessionRecord :=
  { r with state := .detached, pending := .noChange, evicted := false, cursor := none }

/-- A port under SOFT_RESET: SP's request buffer is kept, a client's is emptied, and every response queue is emptied (R161,
R188). -/
def softResetPort (x : Session) (p : PortState) : PortState :=
  match x with
  | .sup => { p with responses := [], transaction := p.transaction.detach }
  | .client _ => { buffer := [], responses := [], transaction := p.transaction.detach }

/-- What SOFT_RESET does to each block (R161). -/
def State.softReset (s : State) : State :=
  { s.emptied with
    sessions :=
      PerSession.make (fun x =>
        match x with
        | .sup => { s.sessions.sup with cursor := none }
        | .client n => softResetSession (s.sessions.get (.client n)))
    scan := { s.scan with state := .stopped, frame := 0, expect := .vblank, firstCommit := false }
    resolver := .idle
    front := none
    alerts := s.alerts.cleared
    ports := PerSession.make (fun x => softResetPort x (s.ports.get x))
    lastServed := 3
    commitsDue := [] }

/-- SOFT_RESET: its OK response carries an empty body (R161). -/
def softResetRequest (s : State) : State × Reply := accept s.softReset .empty

/-! ### READ_STATUS -/

/-- A session's row of the status record (R199). -/
def State.sessionRow (s : State) (x : Session) : SessionRow :=
  let r := s.sessions.get x
  { state := r.state, pending := r.pending, quota := r.quota, ceiling := r.ceiling, leaseMax := r.leaseMax,
    evicted := r.evicted, regionCount := s.regionCount x, entryCount := (s.tagMaps.get x).length }

/-- The status record (R199). -/
def State.statusRecord (s : State) : StatusRecord :=
  { state := s.scan.state, frame := s.scan.frame, expect := s.scan.expect, resolver := s.resolver.phase,
    front := s.front.map (fun p => (p.epoch, p.status)), occupancy := s.pool.length, pinned := s.pinnedCount,
    width := s.scan.width, height := s.scan.height, background := s.scan.background, grace := s.scan.grace,
    rows := PerSession.make s.sessionRow }

/-- READ_STATUS (R199). -/
def readStatusRequest (s : State) : State × Reply := accept s (.status s.statusRecord)

/-! ### RESET_N -/

/-- A port while RESET_N is low: empty, and IGNORING where its select is held (R188, R202). -/
def resetPort (p : PortState) : PortState :=
  { PortState.reset with transaction := if p.transaction = .idle then .idle else .ignoring }

/-- Every block at its RESET_N values, with the pin held low (R202). The model's queue of commands is no block. -/
def State.heldInReset (s : State) : State :=
  { State.reset with
    ports := PerSession.make (fun x => resetPort (s.ports.get x))
    resetLow := true
    pending := s.pending }

/-- The pin RESET_N at a level: low holds every block at its reset values; when it rises the part starts from them (R202). -/
def State.resetPin (s : State) : PinLevel → State
  | .low => s.heldInReset
  | .high => { s with resetLow := false }

/-! ### The commands -/

/-- The TC takes a START (R145). -/
def execStart (port : Port) (seq : Byte) (s : State) : Result := .next (s.serve port ⟨seq, .start⟩ startRequest)

/-- The TC takes a HOLD (R147). -/
def execHold (port : Port) (seq : Byte) (s : State) : Result := .next (s.serve port ⟨seq, .hold⟩ holdRequest)

/-- The TC takes a RESUME_SCAN (R148). -/
def execResumeScan (port : Port) (seq : Byte) (s : State) : Result :=
  .next (s.serve port ⟨seq, .resumeScan⟩ resumeScanRequest)

/-- The TC takes a STOP (R149). -/
def execStop (port : Port) (seq : Byte) (s : State) : Result := .next (s.serve port ⟨seq, .stop⟩ stopRequest)

/-- The TC takes a CONFIGURE (R156). -/
def execConfigure (port : Port) (seq : Byte) (width height : Word16) (background : Colour) (grace : Byte) (s : State) :
    Result :=
  .next (s.serve port ⟨seq, .configure width height background grace⟩ (configureRequest width height background grace))

/-- The TC takes a FORCE_COMMIT (R95). -/
def execForceCommit (port : Port) (seq : Byte) (s : State) : Result :=
  .next (s.serve port ⟨seq, .forceCommit⟩ forceCommitRequest)

/-- The TC takes a CLEAR_TABLE (R159). -/
def execClearTable (port : Port) (seq : Byte) (s : State) : Result :=
  .next (s.serve port ⟨seq, .clearTable⟩ clearTableRequest)

/-- The TC takes a SOFT_RESET (R161). -/
def execSoftReset (port : Port) (seq : Byte) (s : State) : Result :=
  .next (s.serve port ⟨seq, .softReset⟩ softResetRequest)

/-- The TC takes a READ_STATUS (R199). -/
def execReadStatus (port : Port) (seq : Byte) (s : State) : Result :=
  .next (s.serve port ⟨seq, .readStatus⟩ readStatusRequest)

/-- The pin RESET_N is at a level (R202). -/
def execResetN (level : PinLevel) (s : State) : Result := .next (s.resetPin level)

end Sys2Proof.Machine
end

