-- ==== Sys2Proof/Machine/Walks.lean ====
section
/-! DEFINITION. WALK_START and WALK_NEXT (chapter 9). -/

namespace Sys2Proof.Machine

/-- Is the slot's region in a state the filter names (R179)? -/
def State.filterHolds (s : State) (f : StateFilter) (k : Slot) : Bool := s.table[k].any (fun r => f.admits r.state)

/-- The items of a walk with their keys, in ascending key order: a client's Tag Map entries by tag, or for SUP the slots of
the whole table (R179). -/
def State.walkItems (s : State) (x : Session) (f : StateFilter) : List (Nat × Slot) :=
  match x with
  | .client _ =>
    (s.tagMaps.get x).filterMap (fun e =>
      e.slot.bind (fun k => if s.filterHolds f k then some (e.tag.toNat, k) else none))
  | .sup => (slots.filter (s.filterHolds f)).map (fun k => (k.val, k))

/-- The answer of a walk request over the items it selects: the first 4 reports and the more flag (R180). The cursor becomes
`next key` of the last report's key, or absent with no report. -/
def walkReply (x : Session) (items : List (Nat × Slot)) (changed : Bool) (startFrame : Word16) (next : Nat → Cursor)
    (s : State) : State × Reply :=
  let out := items.take Config.walkLimit
  acceptWith (s.mapSession x (fun r => { r with cursor := out.getLast?.map (fun i => next i.1) }))
    (.walk out.length (decide (Config.walkLimit < items.length)) changed startFrame)
    (out.map (fun i => .region (s.regionReport i.2)))

/-- WALK_START (R178 to R180). -/
def walkStartRequest (p : Port) (filter : Byte) (s : State) : State × Reply :=
  match s.sessionRefusal p .read with
  | some c => refuse s c
  | none =>
    match filterOf filter with
    | none => refuse s .badRequest
    | some f =>
      walkReply p (s.walkItems p f) false s.scan.frame
        (fun key => { key := key, filter := f, startFrame := s.scan.frame, changed := false }) s

/-- WALK_NEXT (R181). -/
def walkNextRequest (p : Port) (s : State) : State × Reply :=
  match s.sessionRefusal p .read with
  | some c => refuse s c
  | none =>
    match (s.sessions.get p).cursor with
    | none => refuse s .noCursor
    | some c =>
      walkReply p ((s.walkItems p c.filter).filter (fun i => decide (c.key < i.1))) c.changed c.startFrame
        (fun key => { c with key := key }) s

/-- The TC takes a WALK_START (R178). -/
def execWalkStart (port : Port) (seq filter : Byte) (s : State) : Result :=
  .next (s.serve port ⟨seq, .walkStart filter⟩ (walkStartRequest port filter))

/-- The TC takes a WALK_NEXT (R181). -/
def execWalkNext (port : Port) (seq : Byte) (s : State) : Result :=
  .next (s.serve port ⟨seq, .walkNext⟩ (walkNextRequest port))

end Sys2Proof.Machine
end

