-- ==== Sys2Proof/Machine/Dispatch.lean ====
section
/-! DEFINITION. The meaning of every command: one arm for each row of spec/opcode_table.json. -/

namespace Sys2Proof.Machine

def exec (i : Instr) (s : State) : Host.Outcome State Fault Refusal :=
  match i with
  | .attach port seq => Sys2Proof.Machine.execAttach port seq s
  | .detach port seq => Sys2Proof.Machine.execDetach port seq s
  | .openRegion port seq block => Sys2Proof.Machine.execOpenRegion port seq block s
  | .amend port seq block => Sys2Proof.Machine.execAmend port seq block s
  | .renew port seq tag => Sys2Proof.Machine.execRenew port seq tag s
  | .renewAll port seq => Sys2Proof.Machine.execRenewAll port seq s
  | .release port seq tag => Sys2Proof.Machine.execRelease port seq tag s
  | .pin port seq block => Sys2Proof.Machine.execPin port seq block s
  | .unpin port seq tag => Sys2Proof.Machine.execUnpin port seq tag s
  | .lookup port seq tag => Sys2Proof.Machine.execLookup port seq tag s
  | .lookupSlot port seq slot => Sys2Proof.Machine.execLookupSlot port seq slot s
  | .probe port seq x y => Sys2Proof.Machine.execProbe port seq x y s
  | .walkStart port seq filter => Sys2Proof.Machine.execWalkStart port seq filter s
  | .walkNext port seq => Sys2Proof.Machine.execWalkNext port seq s
  | .fetchNotices port seq => Sys2Proof.Machine.execFetchNotices port seq s
  | .setLimits port seq client quota ceiling leaseMax => Sys2Proof.Machine.execSetLimits port seq client quota ceiling leaseMax s
  | .suspend port seq client => Sys2Proof.Machine.execSuspend port seq client s
  | .resume port seq client => Sys2Proof.Machine.execResume port seq client s
  | .evict port seq client => Sys2Proof.Machine.execEvict port seq client s
  | .configure port seq width height background grace => Sys2Proof.Machine.execConfigure port seq width height background grace s
  | .start port seq => Sys2Proof.Machine.execStart port seq s
  | .hold port seq => Sys2Proof.Machine.execHold port seq s
  | .resumeScan port seq => Sys2Proof.Machine.execResumeScan port seq s
  | .stop port seq => Sys2Proof.Machine.execStop port seq s
  | .forceCommit port seq => Sys2Proof.Machine.execForceCommit port seq s
  | .clearTable port seq => Sys2Proof.Machine.execClearTable port seq s
  | .softReset port seq => Sys2Proof.Machine.execSoftReset port seq s
  | .readStatus port seq => Sys2Proof.Machine.execReadStatus port seq s
  | .fetchAlerts port seq => Sys2Proof.Machine.execFetchAlerts port seq s
  | .setAlertMask port seq mask => Sys2Proof.Machine.execSetAlertMask port seq mask s
  | .vblank => Sys2Proof.Machine.execVblank s
  | .fstart => Sys2Proof.Machine.execFstart s
  | .resetN level => Sys2Proof.Machine.execResetN level s
  | .commit => Sys2Proof.Machine.execCommit s
  | .leaseLapse slot => Sys2Proof.Machine.execLeaseLapse slot s
  | .graceRetire slot => Sys2Proof.Machine.execGraceRetire slot s
  | .resolveCompletion => Sys2Proof.Machine.execResolveCompletion s
  | .planQuery => Sys2Proof.Machine.execPlanQuery s
  | .lineQuery y => Sys2Proof.Machine.execLineQuery y s
  | .bandQuery index => Sys2Proof.Machine.execBandQuery index s
  | .unknownQuery code => Sys2Proof.Machine.execUnknownQuery code s
  | .answerSent => Sys2Proof.Machine.execAnswerSent s
  | .selectFall port => Sys2Proof.Machine.execSelectFall port s
  | .writeCommand port => Sys2Proof.Machine.execWriteCommand port s
  | .readCommand port => Sys2Proof.Machine.execReadCommand port s
  | .badCommandByte port byte => Sys2Proof.Machine.execBadCommandByte port byte s
  | .headerFramingCheck port kind seq length => Sys2Proof.Machine.execHeaderFramingCheck port kind seq length s
  | .requestDecision port bytes => Sys2Proof.Machine.execRequestDecision port bytes s
  | .responseSent port => Sys2Proof.Machine.execResponseSent port s
  | .selectRise port => Sys2Proof.Machine.execSelectRise port s
  | .statusByteSent port => Sys2Proof.Machine.execStatusByteSent port s

end Sys2Proof.Machine
end

