-- ==== Sys2Proof/Safety.lean ====
section
/-! DEFINITION. The terms in which claims about the PL64 are stated: the state after a request is answered, the invariants that
every step keeps, the candidates of a resolve and the form of a plan, what a commit does to one slot, and the bytes of
messages. No meaning uses this file. -/

namespace Sys2Proof.Machine

/-! ### Requests and sessions -/

/-- Something holds of every session. -/
abbrev forSessions (P : Session → Prop) : Prop := (∀ n : Client, P (.client n)) ∧ P .sup

/-- The state `s` after the request `r` has left the front of its port's buffer and the reply has joined the end of its
response queue; a client port so served is the last client port served (R195, R196). -/
def State.answered (s : State) (p : Port) (r : Request) (reply : Reply) : State :=
  { s with
    ports :=
      s.ports.set p
        { s.ports.get p with
          buffer := (s.ports.get p).buffer.tail
          responses := (s.ports.get p).responses ++ [{ kind := r.call.kind, seq := r.seq, reply := reply }] }
    lastServed :=
      match p with
      | .client n => n
      | .sup => s.lastServed }

/-- A reply with a code, an empty body and no records (R50, R200). -/
def plainReply (c : ResultCode) : Reply := { code := c, body := .empty, records := [] }

/-- An OK reply with a body and no records. -/
def okReply (b : Body) : Reply := { code := .ok, body := b, records := [] }

/-- A port holds a request and has room for its response (R196). -/
abbrev State.Eligible (s : State) (p : Port) : Prop :=
  (s.ports.get p).buffer ≠ [] ∧ (s.ports.get p).responses.length < 4

/-! ### Checks of the region requests, in their order -/

/-- The outcome of the first check of a list that fails (a check is true where it fails); none where every check passes. -/
def firstFailure : List (Bool × ResultCode) → Option ResultCode
  | [] => none
  | (true, c) :: _ => some c
  | (false, _) :: l => firstFailure l

/-- The checks of a client's OPEN in the order of R51, the session-state check of R27 among them. -/
def openChecks (n : Client) (b : FieldBlock) (s : State) : List (Bool × ResultCode) :=
  let sess := s.sessions.get (.client n)
  let map := s.tagMaps.get (.client n)
  [(decide (sess.state = .detached), .notAttached), (decide (sess.state = .suspended), .suspended),
     (decide (sess.state = .draining), .draining), (decide (s.scan.width = 0 ∨ s.scan.height = 0), .notConfigured),
     (!openValid b, .badRequest), (map.any (fun e => decide (e.tag = b.tag)), .tagInUse),
     (decide (sess.quota ≤ map.length), .quota),
     (decide (b.x1.toNat ≤ b.x0.toNat ∨ b.y1.toNat ≤ b.y0.toNat ∨ s.scan.width < b.x1.toNat
        ∨ s.scan.height < b.y1.toNat), .outOfBounds),
     (decide (sess.ceiling < b.layer.toNat), .layerDenied),
     (slots.any (fun k => s.table[k].any (fun o =>
        !o.pinned && decide (o.state ≠ .retiring) && decide (s.prospectiveLayer k o = some b.layer.toNat)
          && (s.prospectiveRect k o).any (fun z => (blockRect b).overlaps z))), .overlap),
     (decide (32 ≤ s.pool.length), .stageFull)]

/-- The rank a pinned region holds, by its record or its staged entry (R18). -/
def State.rankOf (s : State) (k : Slot) (r : Region) : Option Nat :=
  ((s.entryFor k).bind (fun e => e.fields.rank)).or r.rank

/-- The checks of PIN in the order of R64. -/
def pinChecks (b : FieldBlock) (s : State) : List (Bool × ResultCode) :=
  let bit (n : Nat) : Bool := b.mask.getLsbD n
  [(decide (s.scan.width = 0 ∨ s.scan.height = 0), .notConfigured),
     (decide (b.tag = 0 ∨ 7 < b.rank.toNat ∨ (b.fill ≠ 0x00#8 ∧ b.fill ≠ 0x01#8)
        ∨ (b.fill = 0x00#8 ∧ (bit 5 = false ∨ 3 < b.stream.toNat ∨ bit 6 = true))
        ∨ (b.fill = 0x01#8 ∧ (bit 6 = false ∨ bit 5 = true))
        ∨ bit 1 = true ∨ bit 3 = true ∨ bit 7 = true ∨ bit 8 = true), .badRequest),
     ((s.tagMaps.get .sup).any (fun e => decide (e.tag = b.tag)), .tagInUse),
     (decide (8 ≤ (slots.filter (fun k => s.table[k].any (fun o => decide (o.owner = .sup)))).length), .pinLimit),
     (decide (b.x1.toNat ≤ b.x0.toNat ∨ b.y1.toNat ≤ b.y0.toNat ∨ s.scan.width < b.x1.toNat
        ∨ s.scan.height < b.y1.toNat), .outOfBounds),
     (slots.any (fun k => s.table[k].any (fun o =>
        decide (o.owner = .sup) && decide (s.rankOf k o = some b.rank.toNat))), .rankInUse),
     (decide (32 ≤ s.pool.length), .stageFull)]

/-- The checks of an AMEND from the port that names the region `g` of the slot, in the order of R55, R56 and R58. -/
def amendChecks (p : Port) (b : FieldBlock) (k : Slot) (g : Region) (s : State) : List (Bool × ResultCode) :=
  let sess := s.sessions.get p
  let bit (n : Nat) : Bool := b.mask.getLsbD n
  let client := decide (p ≠ .sup)
  let held := s.prospectiveFill k g
  let lease := bit 3
  let rect : Option Rect := if bit 0 then some (blockRect b) else s.prospectiveRect k g
  let layer : Option Nat := if bit 1 then some b.layer.toNat else s.prospectiveLayer k g
  let badFill : Bool :=
    if bit 4 then
      decide (b.fill ≠ 0x00#8 ∧ b.fill ≠ 0x01#8) || (decide (b.fill = 0x01#8) && !bit 6)
        || (decide (b.fill = 0x00#8) && bit 6)
    else bit 6 && decide (held = some .source)
  let badStream : Bool :=
    (bit 5 && decide (3 < b.stream.toNat))
      || (if bit 4 then (decide (b.fill = 0x00#8) && !bit 5) || (decide (b.fill = 0x01#8) && bit 5)
          else bit 5 && decide (held = some .solid))
  let noField := !(bit 0 || bit 1 || bit 2 || bit 3 || bit 4 || bit 5 || bit 6 || bit 7 || bit 8)
  let bad : Bool :=
    noField || (bit 7 && bit 8) || badFill
      || (if client then (bit 1 && decide (15 < b.layer.toNat)) || (lease && decide (b.lease = 0)) || bit 5 || bit 2
          else bit 1 || bit 2 || lease || bit 7 || bit 8 || badStream)
  [(client && decide (sess.state = .detached), .notAttached), (client && decide (sess.state = .suspended), .suspended),
     (client && decide (sess.state = .draining), .draining), (decide (b.tag = 0), .badRequest),
     (decide (g.state = .lapsed), .lapsed), (decide (g.state = .retiring), .retiring), (bad, .badRequest),
     (bit 0 && decide (b.x1.toNat ≤ b.x0.toNat ∨ b.y1.toNat ≤ b.y0.toNat ∨ s.scan.width < b.x1.toNat
        ∨ s.scan.height < b.y1.toNat), .outOfBounds),
     (client && bit 1 && decide (sess.ceiling < b.layer.toNat), .layerDenied),
     (client && (bit 0 || bit 1) && slots.any (fun j => decide (j ≠ k) && s.table[j].any (fun o =>
        !o.pinned && decide (o.state ≠ .retiring) && decide (layer.isSome = true ∧ s.prospectiveLayer j o = layer)
          && rect.any (fun a => (s.prospectiveRect j o).any (fun z => a.overlaps z)))), .overlap),
     ((s.entryFor k).isNone && decide (32 ≤ s.pool.length), .stageFull)]

/-! ### Departures (R32) -/

/-- The state `u` that a departure of client n leaves of `s`, the mark it leaves, how many regions it freed at once and how many
regions of the client are then RETIRING (R32). Everything the rule does not name is as it was. -/
def State.Departs (s u : State) (n : Client) (evicted : Bool) (freed retiring : Nat) : Prop :=
  let x : Session := .client n
  u = { s with table := u.table, tagMaps := u.tagMaps, pool := u.pool, sessions := u.sessions, shown := u.shown }
    ∧ u.pool = s.pool.filter (fun e => !s.table[e.slot].any (fun r => decide (r.owner = x)))
    ∧ (∀ k : Slot, s.table[k] = none → u.table[k] = none ∧ u.shown[k] = s.shown[k])
    ∧ (∀ k : Slot, ∀ r ∈ s.table[k], r.owner ≠ x → u.table[k] = some r ∧ u.shown[k] = s.shown[k])
    ∧ (∀ k : Slot, ∀ r ∈ s.table[k], r.owner = x →
        (r.state = .stagedNew → u.table[k] = none ∧ u.shown[k] = false)
          ∧ (r.state = .live ∨ r.state = .lapsed →
              u.table[k] = some { r with state := .retiring, graceLeft := none } ∧ u.shown[k] = s.shown[k])
          ∧ (r.state = .retiring → u.table[k] = some r ∧ u.shown[k] = s.shown[k]))
    ∧ u.tagMaps =
        s.tagMaps.set x
          ((s.tagMaps.get x).filter (fun e =>
            !e.slot.any (fun k => s.table[k].any (fun r => decide (r.owner = x ∧ r.state = .stagedNew)))))
    ∧ u.sessions =
        s.sessions.set x { s.sessions.get x with state := .draining, pending := .drain, evicted := evicted }
    ∧ freed = (slots.filter (fun k => s.table[k].any (fun r => decide (r.owner = x ∧ r.state = .stagedNew)))).length
    ∧ retiring = (slots.filter (fun k => u.table[k].any (fun r => decide (r.owner = x ∧ r.state = .retiring)))).length

/-! ### Ports (R188, R194) -/

/-- A response being sent that is still queued stands at the head of the queue (R194). -/
def PortState.readsHead (q : PortState) : Bool :=
  match q.transaction with
  | .sending r true => decide (q.responses.head? = some r)
  | .sending _ false => true
  | .idle => true
  | .command => true
  | .header _ => true
  | .body _ _ _ => true
  | .status _ => true
  | .ignoring => true

/-- A message still being received is short of its header's or its body's last byte (R188, R190). -/
def PortState.midMessage (q : PortState) : Bool :=
  match q.transaction with
  | .header l => decide (l.length < 3)
  | .body k _ l => decide (l.length < k.bodyLength)
  | .idle => true
  | .command => true
  | .status _ => true
  | .sending _ _ => true
  | .ignoring => true

/-- No port holds more than 4 requests or 4 responses, a read in progress sends the head of its queue, and a message being
received is not yet whole (R188, R190, R194). -/
abbrev State.PortsBounded (s : State) : Prop :=
  forSessions (fun p =>
    (s.ports.get p).buffer.length ≤ 4 ∧ (s.ports.get p).responses.length ≤ 4 ∧ (s.ports.get p).readsHead = true
      ∧ (s.ports.get p).midMessage = true)

/-! ### Sessions (chapter 2) -/

/-- The pending change is one that the session's state admits (R34). -/
def SessionRecord.pendingFits (r : SessionRecord) : Bool :=
  match r.state, r.pending with
  | .detached, .noChange => true
  | .attached, .noChange => true
  | .attached, .suspend => true
  | .suspended, .noChange => true
  | .suspended, .resume => true
  | .draining, .drain => true
  | _, _ => false

/-- A client's record is one the rules allow: limits in range (R29, R30), pending and state in step (R34), the evicted mark
clear while ATTACHED or SUSPENDED (R31), no cursor while DETACHED (R33). -/
abbrev SessionRecord.Legal (r : SessionRecord) : Prop :=
  r.quota ≤ 32 ∧ r.ceiling ≤ 15 ∧ 1 ≤ r.leaseMax ∧ r.leaseMax ≤ 255 ∧ r.pendingFits = true
    ∧ (r.evicted = true → r.state = .detached ∨ r.state = .draining) ∧ (r.state = .detached → r.cursor = none)

/-- Every client's record is legal, the quotas sum to at most 56 (R30), and SUP's record holds what R24, R25 and R199 give it
at all times. -/
abbrev State.SessionsLegal (s : State) : Prop :=
  (∀ n : Client, (s.sessions.get (.client n)).Legal)
    ∧ (s.sessions.get (.client 0)).quota + (s.sessions.get (.client 1)).quota + (s.sessions.get (.client 2)).quota
        + (s.sessions.get (.client 3)).quota ≤ 56
    ∧ { s.sessions.sup with cursor := none } = SessionRecord.supReset

/-! ### Scan Control, the Resolver and the Plan Store (chapters 5 to 7) -/

/-- The width and height that a Resolver carries in its resolve or its back plan. -/
def Resolver.panel : Resolver → Option (Nat × Nat)
  | .idle => none
  | .resolving j => some (j.width, j.height)
  | .ready p => some (p.width, p.height)

/-- Scan state, plans and Resolver agree: the panel is unconfigured or legal (R141, R156), STOPPED holds no plan, no resolve,
no mark and no commit (R149), PRIMING has no front plan while RUNNING and HOLD have one (R124, R131), and every plan and
resolve is of the configured panel (R107). -/
abbrev State.ScanLegal (s : State) : Prop :=
  ((s.scan.width = 0 ∧ s.scan.height = 0)
      ∨ (16 ≤ s.scan.width ∧ s.scan.width ≤ 4096 ∧ 16 ≤ s.scan.height ∧ s.scan.height ≤ 4096))
    ∧ s.scan.grace ≤ 15
    ∧ (s.scan.state = .stopped →
        s.front = none ∧ s.resolver = .idle ∧ s.shown = Vector.replicate 64 false ∧ s.scan.firstCommit = false
          ∧ s.commitsDue = [])
    ∧ (s.scan.state ≠ .stopped → s.scan.width ≠ 0)
    ∧ (s.scan.state = .priming → s.front = none)
    ∧ (s.scan.state = .running ∨ s.scan.state = .hold → s.front.isSome = true)
    ∧ (s.resolver ≠ .idle ∨ s.front.isSome = true → s.scan.firstCommit = false)
    ∧ (∀ p ∈ s.front, p.width = s.scan.width ∧ p.height = s.scan.height)
    ∧ (∀ d ∈ s.resolver.panel, d = (s.scan.width, s.scan.height))

/-! ### The table, the Tag Maps and the pool (chapters 1 and 3) -/

/-- The state and class of a region admit an entry of the kind (R2, last row). -/
def Region.admits (r : Region) : EntryKind → Bool
  | .new => decide (r.state = .stagedNew) && !r.pinned
  | .pin => decide (r.state = .stagedNew) && r.pinned
  | .amend => decide (r.state = .live)
  | .revive => decide (r.state = .lapsed) && !r.pinned
  | .release => decide (r.state = .retiring) && !r.pinned
  | .unpin => decide (r.state = .retiring) && r.pinned

/-- A Tag Map is in strictly ascending tag order and names no tag 0 (R19). -/
abbrev orderedMap (m : List TagEntry) : Prop := m.Pairwise (fun a b => a.tag < b.tag) ∧ ∀ e ∈ m, e.tag ≠ 0

/-- A Tag Map entry names a region of its session and tag, or delivers RETIRED for a client (R20, R21). -/
def State.entryNames (s : State) (x : Session) (e : TagEntry) : Bool :=
  match e.slot with
  | none => e.notices.retired && decide (x ≠ .sup)
  | some k => s.table[k].any (fun r => decide (r.owner = x) && decide (r.tag = e.tag))

/-- A region has the pool entry its state asks for (R2, R9): STAGED_NEW and pinned RETIRING regions hold one, and a client's
RETIRING region holds one or waits for its owner's DRAIN. -/
def State.stagedFits (s : State) (k : Slot) (r : Region) : Bool :=
  match r.state with
  | .stagedNew => (s.entryFor k).isSome
  | .retiring =>
    if r.pinned then (s.entryFor k).isSome
    else (s.entryFor k).isSome || decide ((s.sessions.get r.owner).state = .draining)
  | .live => true
  | .lapsed => !r.pinned

/-- A DRAINING session's regions are RETIRING without an entry, and a DETACHED one has none (R26). -/
def State.ownerFits (s : State) (k : Slot) (r : Region) : Bool :=
  match (s.sessions.get r.owner).state with
  | .detached => false
  | .draining => decide (r.state = .retiring) && (s.entryFor k).isNone
  | .attached => true
  | .suspended => true

/-- The Region Table, the Tag Maps, the pool, the sessions and the marks agree (R9, R19 to R21, R26, R42, R123). -/
abbrev State.TableAgrees (s : State) : Prop :=
  s.SessionsLegal
    ∧ forSessions (fun x => orderedMap (s.tagMaps.get x))
    ∧ forSessions (fun x => ∀ e ∈ s.tagMaps.get x, s.entryNames x e = true)
    ∧ (∀ n : Client, (s.tagMaps.get (.client n)).length ≤ (s.sessions.get (.client n)).quota)
    ∧ (∀ n : Client, (s.sessions.get (.client n)).state = .detached → s.tagMaps.get (.client n) = [])
    ∧ (∀ k : Slot, ∀ r ∈ s.table[k], ∃ e ∈ s.tagMaps.get r.owner, e.tag = r.tag ∧ e.slot = some k)
    ∧ s.pool.Pairwise (fun a b => a.slot ≠ b.slot) ∧ s.pool.length ≤ 32
    ∧ (∀ e ∈ s.pool, ∃ r ∈ s.table[e.slot], r.admits e.kind = true)
    ∧ (∀ k : Slot, ∀ r ∈ s.table[k], s.stagedFits k r = true ∧ s.ownerFits k r = true)
    ∧ (∀ k : Slot, s.shown[k] = true → s.table[k].isSome = true)

/-! ### The fields of regions and pool entries (R2, R4 to R6) -/

/-- A SOURCE has a stream and no colour, a SOLID a colour and no stream; a client's stream is its own, a pinned region's is 0
to 3 (R5). -/
def Region.fillFits (r : Region) : Bool :=
  match r.fill, r.owner with
  | some .source, .client n => decide (r.stream = some n.val) && r.colour.isNone
  | some .source, .sup => r.stream.any (fun n => decide (n ≤ 3)) && r.colour.isNone
  | some .solid, _ => r.stream.isNone && r.colour.isSome
  | none, _ => false

/-- The fields a committed region carries by its class, but for remaining and grace_left: a client's a layer and a lease of at
most its owner's lease maximum, a pinned one's a rank; the rectangle is within the panel (R2, R4, R6, R18). -/
def Region.activeFits (s : State) (r : Region) : Bool :=
  r.rect.any (fun q => q.within s.scan.width s.scan.height) && r.fillFits
    && match r.owner with
      | .client n =>
        r.layer.any (fun l => decide (l ≤ 15)) && r.rank.isNone
          && r.lease.any (fun l => decide (1 ≤ l) && decide (l ≤ (s.sessions.get (.client n)).leaseMax))
      | .sup =>
        r.layer.isNone && r.rank.any (fun q => decide (q ≤ 7)) && r.fallback.isNone && r.lease.isNone && r.remaining.isNone
          && decide (r.presentation = .fill)

/-- The remaining count of a client region lies in a range, its upper end the lease (R6). -/
def Region.remainingFits (r : Region) (low : Nat) : Bool :=
  r.pinned || (match r.remaining, r.lease with
    | some m, some l => decide (low ≤ m) && decide (m ≤ l)
    | _, _ => false)

/-- The record of a region is one that R2 gives its class and state. -/
def Region.shapely (s : State) (r : Region) : Bool :=
  match r.state with
  | .stagedNew => decide (r = newRegion r.owner r.tag)
  | .live =>
    r.activeFits s && r.remainingFits 1 && r.graceLeft.isNone && (decide (r.presentation ≠ .fallback) || r.fallback.isSome)
  | .lapsed =>
    r.activeFits s && !r.pinned && decide (r.remaining = some 0)
      && r.graceLeft.any (fun g => decide (1 ≤ g) && decide (g ≤ 15)) && decide (r.presentation = .none)
  | .retiring =>
    r.activeFits s && r.remainingFits 0 && r.graceLeft.isNone && (decide (r.presentation ≠ .fallback) || r.fallback.isSome)

/-- The fill, stream and colour of an entry, over the fill the region holds (R43, R47, R52, R56, R64). -/
def StagedFields.fillFits (f : StagedFields) (pinned : Bool) (held : Option Fill) : Bool :=
  match f.fill with
  | some .source => f.colour.isNone && (if pinned then f.stream.any (fun n => decide (n ≤ 3)) else f.stream.isNone)
  | some .solid => f.colour.isSome && f.stream.isNone
  | none =>
    (f.colour.isNone || decide (held = some .solid))
      && (f.stream.isNone || (pinned && decide (held = some .source) && f.stream.any (fun n => decide (n ≤ 3))))

/-- The fields an entry carries are those its kind may carry, with values in range and rectangles within the panel (R43). -/
def PoolEntry.shapely (s : State) (r : Region) (e : PoolEntry) : Bool :=
  let f := e.fields
  let leaseMax := (s.sessions.get r.owner).leaseMax
  let rectFits := f.rect.all (fun q => q.within s.scan.width s.scan.height)
  let clientFits :=
    f.layer.all (fun l => decide (l ≤ 15)) && f.lease.all (fun l => decide (1 ≤ l) && decide (l ≤ leaseMax)) && f.rank.isNone
  let pinnedFits := f.layer.isNone && f.lease.isNone && decide (f.fallback = .untouched)
  match e.kind with
  | .new =>
    rectFits && clientFits && f.rect.isSome && f.layer.isSome && f.lease.isSome && f.fill.isSome && f.fillFits false none
      && decide (f.fallback ≠ .remove)
  | .pin =>
    rectFits && pinnedFits && f.rect.isSome && f.rank.any (fun q => decide (q ≤ 7)) && f.fill.isSome && f.fillFits true none
  | .amend =>
    rectFits && (if r.pinned then pinnedFits && f.rank.isNone else clientFits) && f.fillFits r.pinned r.fill
  | .revive => decide (f = StagedFields.empty)
  | .release => decide (f = StagedFields.empty)
  | .unpin => decide (f = StagedFields.empty)

/-- Two regions whose claims meet: both reserve, on one prospective layer, and their prospective rectangles have a pixel in
common (R16). -/
def State.claimsMeet (s : State) (j k : Slot) (q r : Region) : Bool :=
  q.reserves && r.reserves && decide (s.prospectiveLayer j q = s.prospectiveLayer k r)
    && (match s.prospectiveRect j q, s.prospectiveRect k r with
      | some a, some b => a.overlaps b
      | _, _ => false)

/-- Every region and entry has the fields its kind gives it, at most 8 regions are pinned with ranks of their own (R17, R18),
and no two reservations meet (R16). -/
abbrev State.RegionsLegal (s : State) : Prop :=
  (∀ k : Slot, ∀ r ∈ s.table[k], r.shapely s = true)
    ∧ (∀ e ∈ s.pool, ∀ r ∈ s.table[e.slot], e.shapely s r = true)
    ∧ s.pinnedCount ≤ 8
    ∧ (∀ j k : Slot, j < k → ∀ q ∈ s.table[j], ∀ r ∈ s.table[k],
        (q.pinned = true → r.pinned = true → s.rankOf j q ≠ s.rankOf k r) ∧ s.claimsMeet j k q r = false)

/-! ### Plans (R105 to R115) -/

/-- Half-open intervals that follow one another without a gap from `a` to `b`, none empty. -/
def tilesFrom : Nat → Nat → List (Nat × Nat) → Bool
  | a, b, [] => decide (a = b)
  | a, b, (x, y) :: l => decide (x = a) && decide (x < y) && tilesFrom y b l

/-- Tiling: the bands tile the panel's lines and the spans of each band its columns (R108). -/
abbrev Plan.Tiles (p : Plan) : Prop :=
  tilesFrom 0 p.height (p.bands.map (fun b => (b.y0, b.y1))) = true
    ∧ ∀ b ∈ p.bands, tilesFrom 0 p.width (b.spans.map (fun sp => (sp.x0, sp.x1))) = true

/-- Spans and bands maximal: no two adjacent spans of a band have equal contents, and no two adjacent bands have equal span
lists (R108). -/
abbrev Plan.Maximal (p : Plan) : Prop :=
  (∀ b ∈ p.bands, ∀ q ∈ b.spans.zip b.spans.tail, q.1.content ≠ q.2.content)
    ∧ ∀ q ∈ p.bands.zip p.bands.tail, q.1.spans ≠ q.2.spans

/-- At most 128 bands, and at most 1024 spans over all of them (R114). -/
abbrev Plan.Fits (p : Plan) : Prop := p.bands.length ≤ 128 ∧ (p.bands.map (fun b => b.spans.length)).sum ≤ 1024

/-- The candidate that a slot's region is in a resolve, written out from R18 and R104 to R106 apart from what the Resolver
reads. A region whose presentation is FILL or FALLBACK is one. It gives its pixels its own owner and slot, with the stream of a SOURCE,
the colour of a SOLID, or the fallback colour of a region shown in it. From bottom to top stand the layers 0 to 15 of the client
regions and then the ranks 0 to 7 of the pinned ones. -/
def Region.candidateOf (r : Region) (k : Slot) : Option Candidate :=
  let giving (kind : SpanKind) (stream : Option Nat) (colour : Option Colour) : Option Candidate :=
    r.rect.map (fun q =>
      { rect := q
        level :=
          match r.owner with
          | .client _ => r.layer.getD 0
          | .sup => 16 + r.rank.getD 0
        pinned := decide (r.owner = .sup)
        content := { kind := kind, owner := some r.owner, slot := some k, stream := stream, colour := colour } })
  match r.presentation, r.fill with
  | .none, _ => none
  | .fallback, _ => giving .solid none r.fallback
  | .fill, some .source => giving .source r.stream none
  | .fill, some .solid => giving .solid none r.colour
  | .fill, none => none

/-- The pixel lies in the candidate's rectangle (R4, R106). -/
abbrev Candidate.Holds (c : Candidate) (x y : Nat) : Prop :=
  c.rect.x0 ≤ x ∧ x < c.rect.x1 ∧ c.rect.y0 ≤ y ∧ y < c.rect.y1

/-- The pixel shows the content: it is that of a candidate that holds the pixel and above which no candidate holds it, or the
background's, of kind BACKGROUND with the background colour alone, where no candidate holds it (R105, R106). -/
def ShowsAt (cs : List Candidate) (background : Colour) (x y : Nat) (c : Content) : Prop :=
  (∃ d ∈ cs, d.Holds x y ∧ (∀ e ∈ cs, e.Holds x y → e.level ≤ d.level) ∧ c = d.content)
    ∨ ((∀ d ∈ cs, ¬ d.Holds x y)
        ∧ c = { kind := .background, owner := none, slot := none, stream := none, colour := some background })

/-- The plan gives every pixel of every span the content that the pixel shows (R108). -/
def Plan.Describes (p : Plan) (cs : List Candidate) (background : Colour) : Prop :=
  ∀ b ∈ p.bands, ∀ sp ∈ b.spans, ∀ x y : Nat,
    b.y0 ≤ y → y < b.y1 → sp.x0 ≤ x → x < sp.x1 → ShowsAt cs background x y sp.content

/-- The content that a plan gives a pixel, where some span holds it. -/
def Plan.contentAt (p : Plan) (x y : Nat) : Option Content :=
  (p.bandAt y).bind (fun b => (b.spanAt x).map (fun sp => sp.content))

/-- A resolve reads rectangles within its panel, and few enough pinned candidates for the reduced plan to fit (R4, R17,
R115). -/
abbrev ResolveJob.Sound (j : ResolveJob) : Prop :=
  0 < j.width ∧ 0 < j.height ∧ (∀ c ∈ j.candidates, c.rect.within j.width j.height = true)
    ∧ (j.candidates.filter (fun c => c.pinned)).length ≤ 8

/-- What the Resolver holds is sound: a resolve reads a sound job, and a back plan has the form of R108 and R114. -/
def Resolver.Sound : Resolver → Prop
  | .idle => True
  | .resolving j => j.Sound
  | .ready p => p.Tiles ∧ p.Maximal ∧ p.Fits

/-- The front plan has the form of R108 and R114, and so has what the Resolver holds; a set mark is that of a slot the front
plan names (R122). -/
def State.PlansLegal (s : State) : Prop :=
  s.resolver.Sound ∧ (∀ p ∈ s.front, p.Tiles ∧ p.Maximal ∧ p.Fits)
    ∧ ∀ k : Slot, s.shown[k] = true → ∃ p ∈ s.front, p.shows k = true

/-- The whole invariant of the part. -/
def State.Consistent (s : State) : Prop := s.TableAgrees ∧ s.ScanLegal ∧ s.RegionsLegal ∧ s.PlansLegal

/-! ### A commit, slot by slot (chapter 4)

Written out from the rules field by field, apart from the meaning of COMMIT. -/

/-- The stream of a SOURCE fill that an entry gives a region: a client's own, a pinned region's the entry's (R5, R73 to
R75). -/
def Region.sourceStream (r : Region) (staged : Option Nat) : Option Nat :=
  match r.owner with
  | .client n => some n.val
  | .sup => staged

/-- The region of a slot after pool application, by the slot's entry (R72 to R77). NEW and PIN give a region its fields (R73,
R74), AMEND replaces those it carries, with fill, stream and colour as one unit and a lease setting the remaining count (R75),
REVIVE gives the lease again and ends the grace (R76), and RELEASE and UNPIN free the slot (R77). -/
def afterEntry (e : Option PoolEntry) (r : Region) : Option Region :=
  match e with
  | none => some r
  | some ⟨_, kind, f⟩ =>
    match kind with
    | .new =>
      some
        { r with
          state := .live, rect := f.rect, layer := f.layer, fill := f.fill
          stream := if f.fill = some .source then r.sourceStream none else none
          colour := if f.fill = some .solid then f.colour else none
          fallback := match f.fallback with
            | .set c => some c
            | _ => none
          lease := f.lease, remaining := f.lease, graceLeft := none, awaiting := true }
    | .pin =>
      some
        { r with
          state := .live, rect := f.rect, rank := f.rank, fill := f.fill
          stream := if f.fill = some .source then f.stream else none
          colour := if f.fill = some .solid then f.colour else none
          awaiting := true }
    | .amend =>
      some
        { r with
          rect := if f.rect.isSome then f.rect else r.rect
          layer := if f.layer.isSome then f.layer else r.layer
          fill := if f.fill.isSome then f.fill else r.fill
          stream :=
            if f.fill = some .solid then none
            else if f.fill = some .source then r.sourceStream f.stream
            else if f.stream.isSome then f.stream else r.stream
          colour :=
            if f.fill = some .solid then f.colour
            else if f.fill = some .source then none
            else if f.colour.isSome then f.colour else r.colour
          fallback := match f.fallback with
            | .set c => some c
            | .remove => none
            | .untouched => r.fallback
          lease := if f.lease.isSome then f.lease else r.lease
          remaining := if f.lease.isSome then f.lease else r.remaining
          awaiting := true }
    | .revive => some { r with state := .live, remaining := r.lease, graceLeft := none, awaiting := true }
    | .release => none
    | .unpin => none

/-- A session's state after its pending change is applied (R78). -/
def SessionRecord.stateAfter (r : SessionRecord) : SessionState :=
  match r.pending with
  | .noChange => r.state
  | .suspend => .suspended
  | .resume => .attached
  | .drain => .detached

/-- The region of a slot after pool and session application: a DRAIN frees every region of its client (R78, R79). -/
def State.settledRegion (s : State) (k : Slot) : Option Region :=
  (s.table[k].bind (afterEntry (s.entryFor k))).bind (fun r =>
    match r.owner with
    | .client n => if (s.sessions.get (.client n)).pending = .drain then none else some r
    | .sup => some r)

/-- The slot's entry exempts its region from the lease count: a NEW, a REVIVE, or an AMEND that carries a lease (R80). -/
def State.passedOver (s : State) (k : Slot) : Bool :=
  (s.entryFor k).any (fun e =>
    decide (e.kind = .new ∨ e.kind = .revive) || (decide (e.kind = .amend) && e.fields.lease.isSome))

/-- What the lease count of a VBLANK commit does with a slot's settled region. For an owner ATTACHED after session application
(R84), the remaining count of a LIVE region not passed over and the grace_left of a LAPSED one go down by one (R80, R82).
Remaining 0 lapses the region with the configured grace, or retires it at once with grace 0 (R81, R83), and grace_left 0
retires it (R82). -/
def State.countedRegion (s : State) (k : Slot) : Counted :=
  match s.settledRegion k with
  | none => .free
  | some r =>
    match r.owner with
    | .sup => .kept r
    | .client n =>
      if (s.sessions.get (.client n)).stateAfter ≠ .attached then .kept r
      else
        match r.state, r.remaining, r.graceLeft with
        | .live, some (m + 2), _ => .kept (if s.passedOver k then r else { r with remaining := some (m + 1) })
        | .live, some _, _ =>
          if s.passedOver k then .kept r
          else if s.scan.grace = 0 then .retired true
          else .lapsed { r with state := .lapsed, remaining := some 0, graceLeft := some s.scan.grace }
        | .lapsed, _, some (g + 2) => .kept { r with graceLeft := some (g + 1) }
        | .lapsed, _, some _ => .retired false
        | _, _, _ => .kept r

/-- A region with the presentation that its commit gives it (R7, R89). -/
def State.presented (s : State) (r : Region) : Region :=
  { r with
    presentation :=
      match r.state, r.owner with
      | .live, .sup => .fill
      | .live, .client n =>
        if (s.sessions.get (.client n)).stateAfter = .attached then .fill
        else if (s.sessions.get (.client n)).stateAfter = .suspended ∧ r.fallback.isSome then .fallback
        else .none
      | .retiring, _ => r.presentation
      | _, _ => .none }

/-! ### The bytes of messages (R200, R201)

Written out from the tables of chapter 10, apart from the functions that the part sends by. -/

/-- A number in one byte. -/
def oneByte (n : Nat) : List Byte := [BitVec.ofNat 8 n]

/-- A number in two bytes, most significant first. -/
def twoBytes (n : Nat) : List Byte := [BitVec.ofNat 8 (n / 256), BitVec.ofNat 8 n]

/-- A colour in three bytes: red, green, blue. -/
def threeBytes (n : Nat) : List Byte := [BitVec.ofNat 8 (n / 65536), BitVec.ofNat 8 (n / 256), BitVec.ofNat 8 n]

/-- The number whose bit n is the n-th flag. -/
def bitsOf (l : List Bool) : Nat := (l.zipIdx.map (fun q => if q.1 then 2 ^ q.2 else 0)).sum

/-- A field of a body: one that always stands, or one of a size that may be absent. -/
inductive BodyField where
  | stands (bytes : List Byte)
  | mayStand (size : Nat) (bytes : Option (List Byte))
  deriving DecidableEq, Repr

/-- A field of one byte that always stands. -/
def BodyField.byte (n : Nat) : BodyField := .stands (oneByte n)

/-- A frame number or tag that may be absent. -/
def BodyField.word (o : Option Word16) : BodyField := .mayStand 2 (o.map (fun w => twoBytes w.toNat))

/-- The bytes of a body's fields. Where some may be absent, a presence field opens the body, bit n set where the n-th of them is
present, of one byte for at most 8 and else of two; an absent field takes its place with zeros (R200). -/
def laidOut (fs : List BodyField) : List Byte :=
  let present : List Bool := fs.filterMap (fun f =>
    match f with
    | .stands _ => none
    | .mayStand _ o => some o.isSome)
  (if present = [] then [] else if present.length ≤ 8 then oneByte (bitsOf present) else twoBytes (bitsOf present))
    ++ fs.flatMap (fun f =>
      match f with
      | .stands l => l
      | .mayStand size o => o.getD (List.replicate size 0))

/-- The number of a session: C0 to C3, then SUP. -/
def sessionNumber : Session → Nat
  | .client n => n.val
  | .sup => 4

/-- The place of a value in a list of values. -/
def placeIn {α : Type} [DecidableEq α] (l : List α) (a : α) : Nat := l.idxOf a

/-- The fields of a session report (R24 note 3). -/
def SessionReport.fields (r : SessionReport) : List BodyField :=
  [.byte (sessionNumber r.session), .byte (placeIn [.detached, .attached, .suspended, .draining] r.state),
   .byte (placeIn [.noChange, .suspend, .resume, .drain] r.pending), .byte r.quota, .byte r.ceiling,
   .byte r.leaseMax, .byte r.evicted.toNat, .word r.effective]

/-- The fields of a scan report (R144). -/
def ScanReport.fields (r : ScanReport) : List BodyField :=
  [.byte (placeIn [.stopped, .priming, .running, .hold] r.state), .stands (twoBytes r.frame.toNat),
   .byte (placeIn [.vblank, .fstart] r.expect), .byte (placeIn [.idle, .resolving, .ready] r.resolver)]

/-- The seven alert kinds as one byte (R200 note 2). -/
def AlertFlags.number (a : AlertFlags) : Nat :=
  bitsOf [a.planLate, a.planReduced, a.syncOrder, a.stageFull, a.clientLapsed, a.framing, a.pinNotice]

/-- A notice set as one byte (R200). -/
def NoticeSet.number (n : NoticeSet) : Nat :=
  bitsOf [n.applied, n.lapsed, n.retired, n.visibility.isSome, decide (n.visibility = some .shown)]

/-- The five ports as one byte, CP0 as bit 0 and SP as bit 4 (R200). -/
def portsNumber (p : PerSession Bool) : Nat :=
  bitsOf [p.get (.client 0), p.get (.client 1), p.get (.client 2), p.get (.client 3), p.get .sup]

/-- The bytes of the status record, from its first offset to its last (R199, R200). -/
def StatusRecord.asSent (r : StatusRecord) : List Byte :=
  oneByte (placeIn [.stopped, .priming, .running, .hold] r.state) ++ twoBytes r.frame.toNat
    ++ oneByte (placeIn [.vblank, .fstart] r.expect) ++ oneByte (placeIn [.idle, .resolving, .ready] r.resolver)
    ++ oneByte (match r.front with
        | none => 0
        | some (_, .full) => 1
        | some (_, .reduced) => 3)
    ++ twoBytes (match r.front with
        | none => 0
        | some (epoch, _) => epoch.toNat)
    ++ oneByte r.occupancy ++ oneByte r.pinned ++ twoBytes r.width ++ twoBytes r.height
    ++ threeBytes r.background.toNat ++ oneByte r.grace
    ++ [Session.client 0, .client 1, .client 2, .client 3, .sup].flatMap (fun x =>
        let z := r.rows.get x
        oneByte (placeIn [.detached, .attached, .suspended, .draining] z.state)
          ++ oneByte (placeIn [.noChange, .suspend, .resume, .drain] z.pending) ++ oneByte z.quota ++ oneByte z.ceiling
          ++ oneByte z.leaseMax ++ oneByte z.evicted.toNat ++ oneByte z.regionCount ++ oneByte z.entryCount)

/-- The fields of a PROBE answer: the no-plan flag, and what may be absent (R139, R140). That each of the eleven fields has a
presence bit, so that the presence field is two bytes, is the model's, deduced (log 16). -/
def probeFields (o : Option ProbeReport) : List BodyField :=
  [.byte o.isNone.toNat, .word (o.map (fun p => p.epoch)),
   .mayStand 1 (o.map (fun p => oneByte (placeIn [.full, .reduced] p.status))),
   .mayStand 2 (o.map (fun p => twoBytes p.y0)), .mayStand 2 (o.map (fun p => twoBytes p.y1)),
   .mayStand 2 (o.map (fun p => twoBytes p.x0)), .mayStand 2 (o.map (fun p => twoBytes p.x1)),
   .mayStand 1 (o.map (fun p => oneByte (placeIn [.background, .source, .solid] p.kind))),
   .mayStand 1 (o.bind (fun p => p.owner.map (fun x => oneByte (sessionNumber x)))),
   .mayStand 1 (o.bind (fun p => p.slot.map (fun k => oneByte k.val))),
   .word (o.bind (fun p => p.tag)),
   .mayStand 1 (o.map (fun p => oneByte p.stale.toNat))]

/-- The fields of a body in the order of its rule (R24, R32, R53, R57, R59, R61, R62, R65, R66, R94, R139, R144, R156, R159, R167,
R175, R176, R180, R199, R200). That the remaining count of a RENEW may be absent (log 10), and the order of the bodies of
FETCH_ALERTS and SET_ALERT_MASK (log 18), are the model's, deduced; whether LOOKUP's session state (R26) is sent is free (log
23). -/
def Body.fields : Body → List BodyField
  | .empty => []
  | .session r => r.fields
  | .departure r freed retiring => r.fields ++ [.byte freed, .byte retiring]
  | .opened k lease f => [.byte k.val, .byte lease, .word f]
  | .amended k lease merged f => [.byte k.val, .mayStand 1 (lease.map oneByte), .byte merged.toNat, .word f]
  | .renewed k action remaining f =>
    [.byte k.val, .byte (placeIn [.renewed, .noEffect, .reviveStaged] action), .mayStand 1 (remaining.map oneByte), .word f]
  | .renewedAll n m incomplete f => [.byte n, .byte m, .byte incomplete.toNat, .word f]
  | .released k d f => [.byte k.val, .byte (placeIn [.freed, .staged] d), .word f]
  | .pinned k f => [.byte k.val, .word f]
  | .looked st =>
    if Config.lookupSendsState then [.byte (placeIn [.detached, .attached, .suspended, .draining] st)] else []
  | .probe o => probeFields o
  | .walk n more changed start => [.byte n, .byte (bitsOf [more, changed]), .stands (twoBytes start.toNat)]
  | .notices n more => [.byte n, .byte (bitsOf [more])]
  | .configuration w h b g => [.stands (twoBytes w), .stands (twoBytes h), .stands (threeBytes b.toNat), .byte g]
  | .conflict k => [.byte k.val]
  | .scan r => r.fields
  | .committed c =>
    [.stands (twoBytes c.frame.toNat), .byte c.applied, .byte c.sessionChanges, .byte c.freed,
     .byte c.material.toNat]
  | .cleared r regions entries => r.fields ++ [.byte regions, .byte entries]
  | .status r => [.stands r.asSent]
  | .alerts pending cs ps mask outstanding =>
    [.byte pending.number, .byte (bitsOf cs.toList), .byte (portsNumber ps), .byte mask.number,
     .byte outstanding.toNat]
  | .alertMask mask pending => [.byte mask.number, .byte pending.number]

/-- The bytes `v` stand in `l` at the offset. -/
abbrev StandsAt (l : List Byte) (offset : Nat) (v : List Byte) : Prop := (l.drop offset).take v.length = v

/-- The 30 bytes `l` are those of a region report: every field that it has stands at its offset (R67, R68, R200). Nothing is said
of the bytes at the offsets of fields that it does not have, which are free (log 11). -/
def RegionReport.LaidOut (r : RegionReport) (l : List Byte) : Prop :=
  l.length = 30 ∧ StandsAt l 2 (oneByte r.slot.val)
    ∧ (r.region = none →
        StandsAt l 0 (twoBytes 0) ∧ StandsAt l 3 [0x00#8, 0xFF#8, 0xFF#8, 0x00#8] ∧ StandsAt l 27 [0x00#8, 0x00#8])
    ∧ ∀ g ∈ r.region,
        StandsAt l 0 (twoBytes g.tag.toNat)
          ∧ StandsAt l 3 (oneByte (1 + placeIn [.stagedNew, .live, .lapsed, .retiring] g.state))
          ∧ StandsAt l 4 (oneByte (sessionNumber g.owner)) ∧ StandsAt l 5 (oneByte (if g.owner = .sup then 1 else 0))
          ∧ StandsAt l 6
              (oneByte (bitsOf
                [g.rect.isSome, g.layer.isSome, g.rank.isSome, g.stream.isSome, g.colour.isSome, g.fallback.isSome,
                 g.lease.isSome, g.graceLeft.isSome]))
          ∧ (∀ q ∈ g.rect, StandsAt l 7 (twoBytes q.x0 ++ twoBytes q.y0 ++ twoBytes q.x1 ++ twoBytes q.y1))
          ∧ (∀ n ∈ g.layer, StandsAt l 15 (oneByte n)) ∧ (g.layer = none → ∀ n ∈ g.rank, StandsAt l 15 (oneByte n))
          ∧ (∀ f ∈ g.fill, StandsAt l 16 (oneByte (placeIn [.source, .solid] f)))
          ∧ (∀ n ∈ g.stream, StandsAt l 17 (oneByte n)) ∧ (∀ c ∈ g.colour, StandsAt l 18 (threeBytes c.toNat))
          ∧ (∀ c ∈ g.fallback, StandsAt l 21 (threeBytes c.toNat)) ∧ (∀ n ∈ g.lease, StandsAt l 24 (oneByte n))
          ∧ (∀ n ∈ g.remaining, StandsAt l 25 (oneByte n)) ∧ (∀ n ∈ g.graceLeft, StandsAt l 26 (oneByte n))
          ∧ StandsAt l 27
              (oneByte (match g.staged with
                | none => 0
                | some k => 1 + placeIn [.new, .pin, .amend, .revive, .release, .unpin] k))
          ∧ StandsAt l 28 (oneByte (bitsOf [g.staged.isSome, g.awaiting])) ∧ StandsAt l 29 (oneByte g.notices.number)

/-- The 4 bytes `l` are those of a notice entry (R200 note 1). -/
def TagEntry.LaidOut (e : TagEntry) (l : List Byte) : Prop :=
  l = twoBytes e.tag.toNat
    ++ oneByte (match e.slot with
        | none => 0xFF
        | some k => k.val)
    ++ oneByte e.notices.number

/-- The bytes of a record (R200). -/
def Record.LaidOut : Record → List Byte → Prop
  | .region r, l => r.LaidOut l
  | .notice e, l => e.LaidOut l

/-- The bytes of a response: kind and sequence echo, outcome, body length, record count, the body, and the records' bytes as
given (R200). -/
def Response.asSent (r : Response) (records : List (List Byte)) : List Byte :=
  let body := laidOut r.reply.body.fields
  [r.kind.code, r.seq]
    ++ oneByte (placeIn
        [.ok, .already, .badRequest, .denied, .notAttached, .suspended, .draining, .notConfigured, .tagInUse, .noSuchTag, .quota,
         .outOfBounds, .layerDenied, .overlap, .stageFull, .lapsed, .retiring, .rankInUse, .pinLimit, .scanState,
         .sessionActive, .limitsConflict, .geometryConflict, .noCursor] r.reply.code)
    ++ oneByte body.length ++ oneByte records.length ++ body ++ records.flatten

/-- The bytes of a region field block, from its first offset to its last (R200). -/
def blockAsSent (b : FieldBlock) : List Byte :=
  twoBytes b.tag.toNat ++ twoBytes b.mask.toNat ++ twoBytes b.x0.toNat ++ twoBytes b.y0.toNat
    ++ twoBytes b.x1.toNat ++ twoBytes b.y1.toNat ++ [b.layer, b.rank, b.lease, b.fill, b.stream]
    ++ threeBytes b.colour.toNat ++ threeBytes b.fallback.toNat

/-- The bytes of an answer on the scan link (R201). -/
def Answer.asSent : Answer → List Byte
  | .noPlan code => [0x80#8, code]
  | .range code => [0x81#8, code]
  | .plan epoch status n w h =>
    [0x00#8, 0x01#8] ++ twoBytes epoch.toNat ++ oneByte (placeIn [.full, .reduced] status) ++ oneByte n ++ twoBytes w
      ++ twoBytes h
  | .band code epoch i b =>
    [0x01#8, code] ++ twoBytes epoch.toNat ++ oneByte i ++ twoBytes b.y0 ++ twoBytes b.y1 ++ oneByte b.spans.length
      ++ b.spans.flatMap (fun sp =>
        twoBytes sp.x0 ++ twoBytes sp.x1 ++ oneByte (placeIn [.background, .source, .solid] sp.content.kind)
          ++ oneByte (match sp.content.owner with
              | none => 0xFF
              | some x => sessionNumber x)
          ++ oneByte (match sp.content.slot with
              | none => 0xFF
              | some k => k.val)
          ++ oneByte (sp.content.stream.getD 0xFF)
          ++ threeBytes (match sp.content.colour with
              | none => 0
              | some c => c.toNat))

end Sys2Proof.Machine
end

