-- ==== Sys2Proof/Certificates/Slice0/Obligations.lean ====
section
/-! DEFINITION. The statements for the provers, chapter by chapter. -/

open Sys2Proof Sys2Proof.Machine

/-! ### Steps, choices and the TC -/

/-- A step with a command at the front of the queue is `exec` of that command on the state with the queue's rest. -/
def Obligations.StepRunsTheCommandInFront : Prop :=
  ∀ (c : Instr) (s : State), step { s with pending := c :: s.pending } = exec c s

/-- The model's choices: with no command waiting a step changes nothing (log 2). What the state does not admit changes nothing
(log 1): a request the arbiter does not choose, a commit with none waiting, LEASE_LAPSE and GRACE_RETIRE of a slot that the
waiting commit does not lapse or retire (log 4), a completion with no resolve in flight, the end of an answer with none in
progress, a byte, an end or a select edge that the port's transaction state does not take, a command byte or a query code that
is another row's, and a byte, a query or a sync line under a low RESET_N (R202). -/
def Obligations.UnadmittedHappeningsChangeNothing : Prop :=
  ∀ s : State,
    (s.pending = [] → step s = .next s)
      ∧ (∀ (c : Instr) (p : Port) (r : Request), c.request = some (p, r) → s.choice ≠ some (p, r) → exec c s = .next s)
      ∧ (∀ c ∈ [Instr.commit] ++ slots.map Instr.leaseLapse ++ slots.map Instr.graceRetire,
          s.commitsDue = [] → exec c s = .next s)
      ∧ (s.pool.Pairwise (fun a b => a.slot ≠ b.slot) → ∀ k : Slot,
          ((∀ r, s.countedRegion k ≠ .lapsed r) → s.countedRegion k ≠ .retired true → exec (.leaseLapse k) s = .next s)
            ∧ (s.countedRegion k ≠ .retired false → exec (.graceRetire k) s = .next s))
      ∧ ((∀ j, s.resolver ≠ .resolving j) → exec .resolveCompletion s = .next s)
      ∧ (s.link = .idle → exec .answerSent s = .next s)
      ∧ (∀ (p : Port) (b k q n : Byte) (l : List Byte),
          let t := (s.ports.get p).transaction
          (t ≠ .command → ∀ c ∈ [Instr.writeCommand p, .readCommand p, .badCommandByte p b], exec c s = .next s)
            ∧ ((∀ h, t = .header h → ¬ h <+: [k, q, n]) → exec (.headerFramingCheck p k q n) s = .next s)
            ∧ ((∀ h, t = .header h → 3 ≤ (h ++ l).length) →
                (∀ kind seq h, t = .body kind seq h → kind.bodyLength < (h ++ l).length) →
                exec (.requestDecision p l) s = .next s)
            ∧ ((∀ r queued, t ≠ .sending r queued) → exec (.responseSent p) s = .next s)
            ∧ ((∀ w, t ≠ .status w) → exec (.statusByteSent p) s = .next s)
            ∧ (t ≠ .idle → exec (.selectFall p) s = .next s)
            ∧ (t = .idle → exec (.selectRise p) s = .next s)
            ∧ (b = 0x01#8 ∨ b = 0x02#8 → exec (.badCommandByte p b) s = .next s)
            ∧ (b = 0x01#8 ∨ b = 0x02#8 ∨ b = 0x03#8 → exec (.unknownQuery b) s = .next s))
      ∧ (s.resetLow = true → ∀ (p : Port) (b k q n : Byte) (y : Word16) (l : List Byte),
          ∀ c ∈ [Instr.writeCommand p, .readCommand p, .badCommandByte p b, .headerFramingCheck p k q n,
              .requestDecision p l, .responseSent p, .statusByteSent p, .planQuery, .lineQuery y, .bandQuery b,
              .unknownQuery b, .vblank, .fstart], exec c s = .next s)

/-- R196: no request is taken while a commit waits or RESET_N is low; otherwise SP's oldest request where SP is eligible, else
that of the first eligible client port counted on from the last one served, else none. -/
def Obligations.ArbiterServesSpThenRotatesClients : Prop :=
  ∀ s : State,
    (s.resetLow = true ∨ s.commitsDue ≠ [] → s.choice = none)
      ∧ (s.resetLow = false → s.commitsDue = [] →
          (s.Eligible .sup → ∃ r l, (s.ports.get .sup).buffer = r :: l ∧ s.choice = some (.sup, r))
            ∧ (∀ i : Fin 4, ¬ s.Eligible .sup → (∀ j : Fin 4, j < i → ¬ s.Eligible (.client (s.lastServed + 1 + j))) →
                s.Eligible (.client (s.lastServed + 1 + i)) →
                ∃ r l, (s.ports.get (.client (s.lastServed + 1 + i))).buffer = r :: l
                  ∧ s.choice = some (.client (s.lastServed + 1 + i), r))
            ∧ ((∀ p : Port, ¬ s.Eligible p) → s.choice = none))

/-- R195, R196: a request taken leaves its buffer and gains exactly one response with its kind and sequence at the end of its
own port's queue; no other port, no link, no waiting commit moves. SOFT_RESET, which empties the ports, is stated apart. -/
def Obligations.RequestTakenGainsOneResponse : Prop :=
  ∀ (c : Instr) (p : Port) (r : Request) (s : State),
    c.request = some (p, r) → s.choice = some (p, r) → ¬ (r.call = .softReset ∧ p = .sup) →
    ∃ (t : State) (reply : Reply),
      exec c s = .next t ∧ t.ports = (s.answered p r reply).ports ∧ t.lastServed = (s.answered p r reply).lastServed
        ∧ t.link = s.link ∧ t.commitsDue = s.commitsDue ∧ t.resetLow = s.resetLow ∧ t.pending = s.pending

/-- R198: a supervisor-only kind from a client is answered DENIED before any other check and changes nothing else; no other
request is ever answered DENIED. -/
def Obligations.SupervisorOnlyKindsDeniedToClients : Prop :=
  ∀ (c : Instr) (p : Port) (r : Request) (s : State),
    c.request = some (p, r) → s.choice = some (p, r) →
    let only : List Kind :=
      [.pin, .unpin, .lookupSlot, .setLimits, .suspend, .resume, .evict, .configure, .start, .hold, .resumeScan, .stop,
       .forceCommit, .clearTable, .softReset, .readStatus, .fetchAlerts, .setAlertMask]
    (p ≠ .sup → r.call.kind ∈ only → exec c s = .next (s.answered p r (plainReply .denied)))
      ∧ (¬ (p ≠ .sup ∧ r.call.kind ∈ only) → ∀ t, exec c s = .next t →
          ∃ x, (t.ports.get p).responses.getLast? = some x ∧ x.reply.code ≠ .denied)

/-! ### Sessions (chapter 2) -/

/-- R31: ATTACH makes a DETACHED client ATTACHED, reports the evicted mark as it stood and clears it; in ATTACHED and SUSPENDED
it is ALREADY with the report, in DRAINING it is refused, and neither changes anything else. -/
def Obligations.AttachByClientState : Prop :=
  ∀ (n : Client) (q : Byte) (s : State),
    s.choice = some (.client n, ⟨q, .attach⟩) →
    let r := s.sessions.get (.client n)
    let report (st : SessionState) : Body :=
      .session { session := .client n, state := st, pending := r.pending, quota := r.quota, ceiling := r.ceiling,
                 leaseMax := r.leaseMax, evicted := r.evicted, effective := s.effectiveFrame }
    (r.state = .detached →
        exec (.attach (.client n) q) s =
          .next
            (({ s with
                sessions := s.sessions.set (.client n) { r with state := .attached, evicted := false } } : State).answered
              (.client n) ⟨q, .attach⟩ (okReply (report .attached))))
      ∧ (r.state = .attached ∨ r.state = .suspended →
          exec (.attach (.client n) q) s =
            .next (s.answered (.client n) ⟨q, .attach⟩ { code := .already, body := report r.state, records := [] }))
      ∧ (r.state = .draining →
          exec (.attach (.client n) q) s = .next (s.answered (.client n) ⟨q, .attach⟩ (plainReply .draining)))

/-- R32, R37, R38: DETACH in ATTACHED or SUSPENDED drops the client's pool entries, frees its STAGED_NEW regions with their Tag Map
entries, makes its LIVE and LAPSED regions RETIRING, stages DRAIN and makes it DRAINING; EVICT does the same to the client it
names and sets its evicted mark. NOT_ATTACHED and DRAINING refuse both, and an index above 3 an EVICT. -/
def Obligations.DetachAndEvictDepart : Prop :=
  (∀ (n : Client) (q : Byte) (s : State),
    s.choice = some (.client n, ⟨q, .detach⟩) →
    let x : Session := .client n
    ((s.sessions.get x).state = .attached ∨ (s.sessions.get x).state = .suspended →
        ∃ u freed retiring, s.Departs u n (s.sessions.get x).evicted freed retiring
          ∧ exec (.detach x q) s =
              .next (u.answered x ⟨q, .detach⟩ (okReply (.departure (u.sessionReport x) freed retiring))))
      ∧ ((s.sessions.get x).state = .detached →
          exec (.detach x q) s = .next (s.answered x ⟨q, .detach⟩ (plainReply .notAttached)))
      ∧ ((s.sessions.get x).state = .draining →
          exec (.detach x q) s = .next (s.answered x ⟨q, .detach⟩ (plainReply .draining))))
    ∧ (∀ (b q : Byte) (s : State),
        s.choice = some (.sup, ⟨q, .evict b⟩) →
        (3 < b.toNat → exec (.evict .sup q b) s = .next (s.answered .sup ⟨q, .evict b⟩ (plainReply .badRequest)))
          ∧ ∀ n : Client, b.toNat = n.val →
              let x : Session := .client n
              ((s.sessions.get x).state = .attached ∨ (s.sessions.get x).state = .suspended →
                  ∃ u freed retiring, s.Departs u n true freed retiring
                    ∧ exec (.evict .sup q b) s =
                        .next (u.answered .sup ⟨q, .evict b⟩ (okReply (.departure (u.sessionReport x) freed retiring))))
                ∧ ((s.sessions.get x).state = .detached →
                    exec (.evict .sup q b) s = .next (s.answered .sup ⟨q, .evict b⟩ (plainReply .notAttached)))
                ∧ ((s.sessions.get x).state = .draining →
                    exec (.evict .sup q b) s = .next (s.answered .sup ⟨q, .evict b⟩ (plainReply .draining))))

/-- R30: SET_LIMITS writes all three limits of a DETACHED client when they are in range and the quotas then sum to at most 56;
its refusals come in the stated order and change nothing else. -/
def Obligations.SetLimitsInOrder : Prop :=
  ∀ (b quota ceiling leaseMax q : Byte) (s : State),
    let r : Request := ⟨q, .setLimits b quota ceiling leaseMax⟩
    let c : Instr := .setLimits .sup q b quota ceiling leaseMax
    s.choice = some (.sup, r) →
    let valid := b.toNat ≤ 3 ∧ quota.toNat ≤ 32 ∧ ceiling.toNat ≤ 15 ∧ 1 ≤ leaseMax.toNat
    (¬ valid → exec c s = .next (s.answered .sup r (plainReply .badRequest)))
      ∧ ∀ n : Client, b.toNat = n.val → valid →
          let old := s.sessions.get (.client n)
          let sum := ((List.finRange 4).map (fun m =>
            if m = n then quota.toNat else (s.sessions.get (.client m)).quota)).sum
          let new := { old with quota := quota.toNat, ceiling := ceiling.toNat, leaseMax := leaseMax.toNat }
          (old.state ≠ .detached → exec c s = .next (s.answered .sup r (plainReply .sessionActive)))
            ∧ (old.state = .detached → 56 < sum → exec c s = .next (s.answered .sup r (plainReply .limitsConflict)))
            ∧ (old.state = .detached → sum ≤ 56 →
                exec c s =
                  .next
                    (({ s with sessions := s.sessions.set (.client n) new } : State).answered .sup r
                      (okReply (.session
                        { session := .client n, state := .detached, pending := old.pending, quota := quota.toNat,
                          ceiling := ceiling.toNat, leaseMax := leaseMax.toNat, evicted := old.evicted,
                          effective := s.effectiveFrame }))))

/-- R34 to R36: SUSPEND and RESUME change the pending change by the table of R34 and nothing else, and answer with the report;
an index above 3, a DETACHED and a DRAINING client are refused. -/
def Obligations.SuspendAndResumeStageOrCancel : Prop :=
  ∀ (b q : Byte) (s : State),
    let rows : List (SessionState × PendingChange × PendingChange × PendingChange) :=
      [(.attached, .noChange, .suspend, .noChange), (.attached, .suspend, .suspend, .noChange),
       (.suspended, .noChange, .noChange, .resume), (.suspended, .resume, .noChange, .resume)]
    let outcome (n : Client) (r : Request) (p : PendingChange) : State :=
      let old := s.sessions.get (.client n)
      ({ s with sessions := s.sessions.set (.client n) { old with pending := p } } : State).answered .sup r
        (okReply (.session
          { session := .client n, state := old.state, pending := p, quota := old.quota, ceiling := old.ceiling,
            leaseMax := old.leaseMax, evicted := old.evicted, effective := s.effectiveFrame }))
    ∀ cr ∈ [(Instr.suspend .sup q b, (⟨q, .suspend b⟩ : Request), true), (.resume .sup q b, ⟨q, .resume b⟩, false)],
      s.choice = some (.sup, cr.2.1) →
      (3 < b.toNat → exec cr.1 s = .next (s.answered .sup cr.2.1 (plainReply .badRequest)))
        ∧ ∀ n : Client, b.toNat = n.val →
            ((s.sessions.get (.client n)).state = .detached →
                exec cr.1 s = .next (s.answered .sup cr.2.1 (plainReply .notAttached)))
              ∧ ((s.sessions.get (.client n)).state = .draining →
                  exec cr.1 s = .next (s.answered .sup cr.2.1 (plainReply .draining)))
              ∧ ∀ row ∈ rows, (s.sessions.get (.client n)).state = row.1 →
                  (s.sessions.get (.client n)).pending = row.2.1 →
                  exec cr.1 s = .next (outcome n cr.2.1 (if cr.2.2 then row.2.2.1 else row.2.2.2))

/-- R41: what RESET_N, SOFT_RESET and CLEAR_TABLE leave in the session records, field by field. That SUP's record holds quota 8,
ceiling 0 and lease maximum 255 after each is the model's, deduced from R25 and R199 (log 15). -/
def Obligations.SessionRecordsAfterResets : Prop :=
  ∀ (q : Byte) (s t : State), s.SessionsLegal →
    (exec (.resetN .low) s = .next t →
        (∀ n : Client, t.sessions.get (.client n) =
            { state := .detached, quota := 0, ceiling := 0, leaseMax := 255, pending := .noChange, evicted := false,
              cursor := none })
          ∧ t.sessions.sup = SessionRecord.supReset)
      ∧ (s.choice = some (.sup, ⟨q, .softReset⟩) → exec (.softReset .sup q) s = .next t →
          (∀ n : Client, t.sessions.get (.client n) =
              { s.sessions.get (.client n) with state := .detached, pending := .noChange, evicted := false, cursor := none })
            ∧ t.sessions.sup = SessionRecord.supReset)
      ∧ (s.choice = some (.sup, ⟨q, .clearTable⟩) → s.scan.state = .stopped ∨ s.scan.state = .hold →
          exec (.clearTable .sup q) s = .next t →
          (∀ n : Client, t.sessions.get (.client n) = { s.sessions.get (.client n) with cursor := none })
            ∧ t.sessions.sup = SessionRecord.supReset)

/-! ### Region requests (chapter 3) -/

/-- R52: for an ATTACHED client and a configured panel, OPEN is answered BAD_REQUEST exactly where the rule's list says so.
Any coordinates, any lease of 1 to 255 and either fallback pass this step. -/
def Obligations.OpenFieldValidity : Prop :=
  ∀ (n : Client) (q : Byte) (b : FieldBlock) (s : State),
    s.choice = some (.client n, ⟨q, .openRegion b⟩) → (s.sessions.get (.client n)).state = .attached →
    s.scan.width ≠ 0 → s.scan.height ≠ 0 →
    ((b.tag = 0 ∨ 15 < b.layer.toNat ∨ b.lease = 0 ∨ (b.fill ≠ 0x00#8 ∧ b.fill ≠ 0x01#8)
          ∨ (b.fill = 0x01#8 ∧ b.mask.getLsbD 6 = false) ∨ (b.fill = 0x00#8 ∧ b.mask.getLsbD 6 = true)
          ∨ b.mask.getLsbD 5 = true) ↔
      exec (.openRegion (.client n) q b) s
        = .next (s.answered (.client n) ⟨q, .openRegion b⟩ (plainReply .badRequest)))

/-- R51, R64, R44: the checks of a client's OPEN and of PIN in their order; the first that fails gives the outcome, and the request
changes nothing but its port, except that STAGE_FULL raises its alert. -/
def Obligations.OpenAndPinChecksInOrder : Prop :=
  (∀ (n : Client) (q : Byte) (b : FieldBlock) (s : State),
    let r : Request := ⟨q, .openRegion b⟩
    s.choice = some (.client n, r) →
    ∀ code : ResultCode, firstFailure (openChecks n b s) = some code →
      exec (.openRegion (.client n) q b) s =
        .next ((if code = .stageFull then s.raise .stageFull else s).answered (.client n) r (plainReply code)))
    ∧ (∀ (q : Byte) (b : FieldBlock) (s : State),
    let r : Request := ⟨q, .pin b⟩
    s.choice = some (.sup, r) →
    ∀ code : ResultCode, firstFailure (pinChecks b s) = some code →
      exec (.pin .sup q b) s =
        .next ((if code = .stageFull then s.raise .stageFull else s).answered .sup r (plainReply code)))

/-- R53, R17, R19: an OPEN that passes every check takes the lowest FREE slot, makes it STAGED_NEW, appends a NEW entry with the
fields named and the granted lease, inserts the tag in its place with no notice, and answers slot, lease and effective
frame. -/
def Obligations.OpenCreatesAStagedRegion : Prop :=
  ∀ (n : Client) (q : Byte) (b : FieldBlock) (k : Slot) (s : State),
    let x : Session := .client n
    let r : Request := ⟨q, .openRegion b⟩
    let lease := min b.lease.toNat (s.sessions.get x).leaseMax
    s.choice = some (x, r) → firstFailure (openChecks n b s) = none →
    s.table[k] = none → (∀ j : Slot, j < k → s.table[j].isSome = true) →
    ∃ u : State,
      exec (.openRegion x q b) s = .next (u.answered x r (okReply (.opened k lease s.effectiveFrame)))
        ∧ u = { s with table := u.table, pool := u.pool, tagMaps := u.tagMaps }
        ∧ u.table =
            s.table.set k
              (some { state := .stagedNew, owner := x, tag := b.tag, rect := none, layer := none, rank := none, fill := none,
                      stream := none, colour := none, fallback := none, lease := none, remaining := none,
                      graceLeft := none, presentation := .none, awaiting := false })
        ∧ u.pool =
            s.pool ++
              [{ slot := k, kind := .new
                 fields :=
                  { rect := some { x0 := b.x0.toNat, y0 := b.y0.toNat, x1 := b.x1.toNat, y1 := b.y1.toNat }
                    layer := some b.layer.toNat, rank := none, lease := some lease
                    fill := some (if b.fill = 0x01#8 then .solid else .source), stream := none
                    colour := if b.fill = 0x01#8 then some b.colour else none
                    fallback := if b.mask.getLsbD 7 then .set b.fallback else .untouched } }]
        ∧ u.tagMaps = s.tagMaps.set x (u.tagMaps.get x)
        ∧ (u.tagMaps.get x).Perm ({ tag := b.tag, slot := some k, notices := NoticeSet.empty } :: s.tagMaps.get x)
        ∧ (orderedMap (s.tagMaps.get x) → orderedMap (u.tagMaps.get x))

/-- R65: a PIN that passes every check takes the lowest FREE slot, makes it a STAGED_NEW region of SUP, appends a PIN entry
with rectangle, rank, fill and stream or colour, inserts the tag, and answers slot and effective frame. -/
def Obligations.PinCreatesAStagedRegion : Prop :=
  ∀ (q : Byte) (b : FieldBlock) (k : Slot) (s : State),
    let r : Request := ⟨q, .pin b⟩
    s.choice = some (.sup, r) → firstFailure (pinChecks b s) = none →
    s.table[k] = none → (∀ j : Slot, j < k → s.table[j].isSome = true) →
    ∃ u : State,
      exec (.pin .sup q b) s = .next (u.answered .sup r (okReply (.pinned k s.effectiveFrame)))
        ∧ u = { s with table := u.table, pool := u.pool, tagMaps := u.tagMaps }
        ∧ u.table =
            s.table.set k
              (some { state := .stagedNew, owner := .sup, tag := b.tag, rect := none, layer := none, rank := none,
                      fill := none, stream := none, colour := none, fallback := none, lease := none, remaining := none,
                      graceLeft := none, presentation := .none, awaiting := false })
        ∧ u.pool =
            s.pool ++
              [{ slot := k, kind := .pin
                 fields :=
                  { rect := some { x0 := b.x0.toNat, y0 := b.y0.toNat, x1 := b.x1.toNat, y1 := b.y1.toNat }
                    layer := none, rank := some b.rank.toNat, lease := none
                    fill := some (if b.fill = 0x01#8 then .solid else .source)
                    stream := if b.fill = 0x01#8 then none else some b.stream.toNat
                    colour := if b.fill = 0x01#8 then some b.colour else none, fallback := .untouched } }]
        ∧ u.tagMaps = s.tagMaps.set .sup (u.tagMaps.get .sup)
        ∧ (u.tagMaps.get .sup).Perm ({ tag := b.tag, slot := some k, notices := NoticeSet.empty } :: s.tagMaps.get .sup)
        ∧ (orderedMap (s.tagMaps.get .sup) → orderedMap (u.tagMaps.get .sup))

/-- R55, R56, R58: the checks of AMEND in their order, for a client and for SUP's pinned regions, over a region that its tag
names. -/
def Obligations.AmendChecksInOrder : Prop :=
  ∀ (p : Port) (q : Byte) (b : FieldBlock) (e : TagEntry) (k : Slot) (g : Region) (s : State),
    let r : Request := ⟨q, .amend b⟩
    s.choice = some (p, r) → orderedMap (s.tagMaps.get p) → e ∈ s.tagMaps.get p → e.tag = b.tag → e.slot = some k →
    s.table[k] = some g →
    ∀ code : ResultCode, firstFailure (amendChecks p b k g s) = some code →
      exec (.amend p q b) s =
        .next ((if code = .stageFull then s.raise .stageFull else s).answered p r (plainReply code))

/-- R57, R45, R47, R58: an AMEND that passes every check reads from its block the fields that its mask marks, the lease clamped, and
merges them into the region's entry where that stands, or appends an AMEND entry with them; the region itself is left as it was,
and the answer names slot, clamped lease, merged flag and effective frame. -/
def Obligations.AmendStagesOrMerges : Prop :=
  ∀ (p : Port) (q : Byte) (b : FieldBlock) (e : TagEntry) (k : Slot) (g : Region) (s : State),
    let r : Request := ⟨q, .amend b⟩
    let sess := s.sessions.get p
    let bit (n : Nat) : Bool := b.mask.getLsbD n
    let f : StagedFields :=
      { rect := if bit 0 then some { x0 := b.x0.toNat, y0 := b.y0.toNat, x1 := b.x1.toNat, y1 := b.y1.toNat } else none
        layer := if bit 1 then some b.layer.toNat else none
        rank := none
        lease := if bit 3 then some (min b.lease.toNat sess.leaseMax) else none
        fill := if bit 4 then (if b.fill = 0x01#8 then some .solid else some .source) else none
        stream := if bit 5 then some b.stream.toNat else none
        colour := if bit 6 then some b.colour else none
        fallback := if bit 7 then .set b.fallback else if bit 8 then .remove else .untouched }
    let merged (z : PoolEntry) : StagedFields :=
      { rect := if f.rect.isSome then f.rect else z.fields.rect
        layer := if f.layer.isSome then f.layer else z.fields.layer
        rank := z.fields.rank
        lease := if f.lease.isSome then f.lease else z.fields.lease
        fill := if f.fill.isSome then f.fill else z.fields.fill
        stream := if f.fill.isSome ∨ f.stream.isSome then f.stream else z.fields.stream
        colour := if f.fill.isSome ∨ f.colour.isSome then f.colour else z.fields.colour
        fallback :=
          match f.fallback with
          | .untouched => z.fields.fallback
          | .set c => .set c
          | .remove => if z.kind = .new then .untouched else .remove }
    s.choice = some (p, r) → orderedMap (s.tagMaps.get p) → e ∈ s.tagMaps.get p → e.tag = b.tag → e.slot = some k →
    s.table[k] = some g → firstFailure (amendChecks p b k g s) = none →
    ((s.entryFor k).isSome = true →
        exec (.amend p q b) s =
          .next
            (({ s with
                pool := s.pool.map (fun z =>
                  if z.slot = k then { z with fields := merged z } else z) } : State).answered
              p r (okReply (.amended k f.lease true s.effectiveFrame))))
      ∧ (s.entryFor k = none →
          exec (.amend p q b) s =
            .next
              (({ s with
                  pool :=
                    s.pool ++
                      [{ slot := k, kind := .amend
                         fields := f }] } : State).answered
                p r (okReply (.amended k f.lease false s.effectiveFrame))))

/-- R59, R44: RENEW of one tag by the state of the region it names. That the answer for a STAGED_NEW region carries its absent
remaining count as absent is the model's, deduced from R2 (log 10). -/
def Obligations.RenewByRegionState : Prop :=
  ∀ (n : Client) (q : Byte) (tag : Word16) (e : TagEntry) (k : Slot) (g : Region) (s : State),
    let x : Session := .client n
    let r : Request := ⟨q, .renew tag⟩
    let c : Instr := .renew x q tag
    s.choice = some (x, r) → (s.sessions.get x).state = .attached → tag ≠ 0 → orderedMap (s.tagMaps.get x) →
    e ∈ s.tagMaps.get x → e.tag = tag → e.slot = some k → s.table[k] = some g →
    (g.state = .live →
        exec c s =
          .next
            (({ s with table := s.table.set k (some { g with remaining := g.lease }) } : State).answered x r
              (okReply (.renewed k .renewed g.lease none))))
      ∧ (g.state = .stagedNew ∨ (g.state = .lapsed ∧ (s.entryFor k).isSome = true) →
          exec c s = .next (s.answered x r (okReply (.renewed k .noEffect g.remaining none))))
      ∧ (g.state = .lapsed → s.entryFor k = none → s.pool.length < 32 →
          exec c s =
            .next
              (({ s with pool := s.pool ++ [{ slot := k, kind := .revive, fields := StagedFields.empty }] } : State).answered x r
                (okReply (.renewed k .reviveStaged g.remaining s.effectiveFrame))))
      ∧ (g.state = .lapsed → s.entryFor k = none → 32 ≤ s.pool.length →
          exec c s = .next ((s.raise .stageFull).answered x r (plainReply .stageFull)))
      ∧ (g.state = .retiring → exec c s = .next (s.answered x r (plainReply .retiring)))

/-- R61: RENEW(0) gives every LIVE region its lease again, stages REVIVE for the LAPSED ones without an entry in tag order
while the pool has room, counts, and raises STAGE_FULL once when it could not revive them all. -/
def Obligations.RenewAllRenewsEveryRegion : Prop :=
  ∀ (n : Client) (q : Byte) (s : State),
    let x : Session := .client n
    let r : Request := ⟨q, .renew 0⟩
    s.choice = some (x, r) → (s.sessions.get x).state = .attached → s.pool.length ≤ 32 →
    let named : List Slot := (s.tagMaps.get x).filterMap (fun e => e.slot)
    let isIn (st : RegionState) (k : Slot) : Bool := s.table[k].any (fun g => decide (g.state = st))
    let lapsed := named.filter (isIn .lapsed)
    let fresh := lapsed.filter (fun k => (s.entryFor k).isNone)
    let staged := fresh.take (32 - s.pool.length)
    let revived := (lapsed.length - fresh.length) + staged.length
    let incomplete := decide (staged.length < fresh.length)
    named.Pairwise (fun a b => a ≠ b) →
    ∃ u : State,
      exec (.renewAll x q) s =
          .next
            (u.answered x r
              (okReply (.renewedAll (named.filter (isIn .live)).length revived incomplete
                (if revived = 0 then none else s.effectiveFrame))))
        ∧ u = { s with table := u.table, pool := u.pool, alerts := u.alerts }
        ∧ (∀ k : Slot, k ∈ named → isIn .live k = true →
            u.table[k] = s.table[k].map (fun g => { g with remaining := g.lease }))
        ∧ (∀ k : Slot, k ∉ named ∨ isIn .live k = false → u.table[k] = s.table[k])
        ∧ u.pool =
            s.pool ++ staged.map (fun k => { slot := k, kind := .revive, fields := StagedFields.empty })
        ∧ u.alerts = if incomplete then s.alerts.raise .stageFull else s.alerts

/-- R62, R66, R45: RELEASE from a client and UNPIN from SP, by the state of the region the tag names. -/
def Obligations.RemovalByRegionState : Prop :=
  ∀ (x : Session) (q : Byte) (tag : Word16) (e : TagEntry) (k : Slot) (g : Region) (s : State),
    let kind : EntryKind := if x = .sup then .unpin else .release
    let r : Request := ⟨q, if x = .sup then .unpin tag else .release tag⟩
    let c : Instr := if x = .sup then .unpin x q tag else .release x q tag
    s.choice = some (x, r) → (x ≠ .sup → (s.sessions.get x).state = .attached) → tag ≠ 0 → orderedMap (s.tagMaps.get x) →
    e ∈ s.tagMaps.get x → e.tag = tag → e.slot = some k → s.table[k] = some g →
    let retired := s.table.set k (some { g with state := .retiring, graceLeft := none })
    (g.state = .stagedNew →
        exec c s =
          .next
            (({ s with
                table := s.table.set k none
                shown := s.shown.set k false
                pool := s.pool.filter (fun z => decide (z.slot ≠ k))
                tagMaps :=
                  s.tagMaps.set x ((s.tagMaps.get x).filter (fun z => decide (z.slot ≠ some k))) } : State).answered
              x r (okReply (.released k .freed none))))
      ∧ ((g.state = .live ∨ g.state = .lapsed) → (s.entryFor k).isSome = true →
          exec c s =
            .next
              (({ s with
                  table := retired
                  pool := s.pool.map (fun z =>
                    if z.slot = k then { slot := k, kind := kind, fields := StagedFields.empty } else z) } : State).answered
                x r (okReply (.released k .staged s.effectiveFrame))))
      ∧ ((g.state = .live ∨ g.state = .lapsed) → s.entryFor k = none → s.pool.length < 32 →
          exec c s =
            .next
              (({ s with
                  table := retired
                  pool := s.pool ++ [{ slot := k, kind := kind, fields := StagedFields.empty }] } : State).answered
                x r (okReply (.released k .staged s.effectiveFrame))))
      ∧ ((g.state = .live ∨ g.state = .lapsed) → s.entryFor k = none → 32 ≤ s.pool.length →
          exec c s = .next ((s.raise .stageFull).answered x r (plainReply .stageFull)))
      ∧ (g.state = .retiring → exec c s = .next (s.answered x r (plainReply .retiring)))

/-- R49, R20, R27: what AMEND, RENEW, RELEASE and LOOKUP from a client answer before they reach a region: the session-state check,
tag 0, and a tag without an entry or whose entry has no slot. R27: the session-state check of RENEW(0), PROBE, WALK_START and
WALK_NEXT. R139: PROBE over an unconfigured panel. R49: the tag check of AMEND, UNPIN and LOOKUP from SP. R25, R48: from SP, ATTACH is answered ALREADY with SUP's constant
report, and DETACH, RENEW, RENEW(0), RELEASE and OPEN over a configured panel BAD_REQUEST. OPEN from SP over an unconfigured
panel is answered NOT_CONFIGURED, which is the model's choice (log 9). None of these changes anything but the port. -/
def Obligations.RequestsRefusedBeforeTheRegion : Prop :=
  (∀ (n : Client) (q : Byte) (b : FieldBlock) (s : State),
    let x : Session := .client n
    let st := (s.sessions.get x).state
    ∀ cr ∈ [(Instr.amend x q b, Call.amend b, true), (.renew x q b.tag, .renew b.tag, true),
        (.release x q b.tag, .release b.tag, true), (.lookup x q b.tag, .lookup b.tag, false)],
      s.choice = some (x, ⟨q, cr.2.1⟩) →
      let answer (c : ResultCode) : Prop := exec cr.1 s = .next (s.answered x ⟨q, cr.2.1⟩ (plainReply c))
      let passes := st = .attached ∨ (st = .suspended ∧ cr.2.2 = false)
      (st = .detached → answer .notAttached) ∧ (st = .draining → answer .draining)
        ∧ (st = .suspended → cr.2.2 = true → answer .suspended)
        ∧ (passes → b.tag = 0 → (∀ t, cr.2.1 ≠ .renew t) → answer .badRequest)
        ∧ (passes → b.tag ≠ 0 → (∀ e ∈ s.tagMaps.get x, e.tag = b.tag → e.slot = none) → answer .noSuchTag))
    ∧ (∀ (n : Client) (q f : Byte) (x y : Word16) (s : State),
    let st := (s.sessions.get (.client n)).state
    ∀ cr ∈ [(Instr.renewAll (.client n) q, Call.renew 0, true), (.probe (.client n) q x y, .probe x y, false),
        (.walkStart (.client n) q f, .walkStart f, false), (.walkNext (.client n) q, .walkNext, false)],
      s.choice = some (.client n, ⟨q, cr.2.1⟩) →
      let answer (c : ResultCode) : Prop := exec cr.1 s = .next (s.answered (.client n) ⟨q, cr.2.1⟩ (plainReply c))
      (st = .detached → answer .notAttached) ∧ (st = .draining → answer .draining)
        ∧ (st = .suspended → cr.2.2 = true → answer .suspended))
    ∧ (∀ (p : Port) (q : Byte) (x y : Word16) (s : State),
    s.choice = some (p, ⟨q, .probe x y⟩) →
    (p ≠ .sup → (s.sessions.get p).state = .attached ∨ (s.sessions.get p).state = .suspended) →
    s.scan.width = 0 ∨ s.scan.height = 0 →
    exec (.probe p q x y) s = .next (s.answered p ⟨q, .probe x y⟩ (plainReply .notConfigured)))
    ∧ (∀ (q : Byte) (b : FieldBlock) (s : State),
    ∀ cr ∈ [(Instr.amend .sup q b, Call.amend b), (.unpin .sup q b.tag, .unpin b.tag), (.lookup .sup q b.tag, .lookup b.tag)],
      s.choice = some (.sup, ⟨q, cr.2⟩) →
      (b.tag = 0 → exec cr.1 s = .next (s.answered .sup ⟨q, cr.2⟩ (plainReply .badRequest)))
        ∧ (b.tag ≠ 0 → (∀ e ∈ s.tagMaps.get .sup, e.tag = b.tag → e.slot = none) →
            exec cr.1 s = .next (s.answered .sup ⟨q, cr.2⟩ (plainReply .noSuchTag))))
    ∧ (∀ (s : State) (q : Byte) (b : FieldBlock) (tag : Word16),
    (s.SessionsLegal → s.choice = some (.sup, ⟨q, .attach⟩) →
        exec (.attach .sup q) s =
          .next (s.answered .sup ⟨q, .attach⟩
            { code := .already, records := [],
              body := .session { session := .sup, state := .attached, pending := .noChange, quota := 8, ceiling := 0,
                                 leaseMax := 255, evicted := false, effective := s.effectiveFrame } }))
      ∧ (s.choice = some (.sup, ⟨q, .detach⟩) →
          exec (.detach .sup q) s = .next (s.answered .sup ⟨q, .detach⟩ (plainReply .badRequest)))
      ∧ (s.choice = some (.sup, ⟨q, .renew tag⟩) →
          exec (.renew .sup q tag) s = .next (s.answered .sup ⟨q, .renew tag⟩ (plainReply .badRequest)))
      ∧ (s.choice = some (.sup, ⟨q, .renew 0⟩) →
          exec (.renewAll .sup q) s = .next (s.answered .sup ⟨q, .renew 0⟩ (plainReply .badRequest)))
      ∧ (s.choice = some (.sup, ⟨q, .release tag⟩) →
          exec (.release .sup q tag) s = .next (s.answered .sup ⟨q, .release tag⟩ (plainReply .badRequest)))
      ∧ (s.choice = some (.sup, ⟨q, .openRegion b⟩) →
          exec (.openRegion .sup q b) s =
            .next (s.answered .sup ⟨q, .openRegion b⟩
              (plainReply (if s.scan.width = 0 ∨ s.scan.height = 0 then .notConfigured else .badRequest)))))

/-- R67, R26: LOOKUP answers the report of the requester's region and the state of its session, and changes nothing but the port.
That the state is the body of the answer, beside the report, is the model's choice (log 23): R26 has it reported in LOOKUP's
session fields, and R67 and R200 give those no place. -/
def Obligations.LookupReportsTheRegion : Prop :=
  ∀ (p : Port) (q : Byte) (tag : Word16) (e : TagEntry) (k : Slot) (g : Region) (s : State),
    s.TableAgrees → s.choice = some (p, ⟨q, .lookup tag⟩) →
    (p ≠ .sup → (s.sessions.get p).state = .attached ∨ (s.sessions.get p).state = .suspended) →
    tag ≠ 0 → e ∈ s.tagMaps.get p → e.tag = tag → e.slot = some k → s.table[k] = some g →
    exec (.lookup p q tag) s =
      .next
        (s.answered p ⟨q, .lookup tag⟩
          { code := .ok, body := .looked (s.sessions.get p).state
            records :=
              [.region
                { slot := k
                  region :=
                    some { tag := g.tag, state := g.state, owner := p, rect := g.rect, fill := g.fill, layer := g.layer,
                           rank := g.rank, stream := g.stream, colour := g.colour, fallback := g.fallback,
                           lease := g.lease, remaining := g.remaining, graceLeft := g.graceLeft,
                           staged := (s.pool.find? (fun z => z.slot == k)).map (fun z => z.kind), awaiting := g.awaiting,
                           notices := e.notices } }] })

/-- R68: LOOKUP_SLOT answers BAD_REQUEST above slot 63, the bare slot where it is FREE, and else the report of its region with
the notices of its owner's entry; it changes nothing but the port. -/
def Obligations.LookupSlotReportsAnySlot : Prop :=
  ∀ (q slot : Byte) (s : State),
    let r : Request := ⟨q, .lookupSlot slot⟩
    s.TableAgrees → s.choice = some (.sup, r) →
    (63 < slot.toNat → exec (.lookupSlot .sup q slot) s = .next (s.answered .sup r (plainReply .badRequest)))
      ∧ ∀ k : Slot, slot.toNat = k.val →
          (s.table[k] = none →
              exec (.lookupSlot .sup q slot) s =
                .next (s.answered .sup r { code := .ok, body := .empty, records := [.region { slot := k, region := none }] }))
            ∧ ∀ g ∈ s.table[k], ∀ e ∈ s.tagMaps.get g.owner, e.slot = some k →
                exec (.lookupSlot .sup q slot) s =
                  .next
                    (s.answered .sup r
                      { code := .ok, body := .empty
                        records :=
                          [.region
                            { slot := k
                              region :=
                                some { tag := g.tag, state := g.state, owner := g.owner, rect := g.rect, fill := g.fill,
                                       layer := g.layer, rank := g.rank, stream := g.stream, colour := g.colour,
                                       fallback := g.fallback, lease := g.lease, remaining := g.remaining,
                                       graceLeft := g.graceLeft,
                                       staged := (s.pool.find? (fun z => z.slot == k)).map (fun z => z.kind),
                                       awaiting := g.awaiting, notices := e.notices } }] })

/-! ### Commits (chapter 4) -/

/-- R71 to R84, R89: a commit acts slot by slot. Each slot's region goes through its own pool entry, its owner's DRAIN, the lease
count and the presentation, each written out in Safety field by field from R7 and R73 to R84 and not by the meaning of COMMIT.
The pool is left empty, a freed slot loses its mark, and blocks a commit does not name keep what they hold. -/
def Obligations.CommitActsSlotBySlot : Prop :=
  ∀ (f : Word16) (rest : List Word16) (s : State),
    s.commitsDue = f :: rest → s.pool.Pairwise (fun a b => a.slot ≠ b.slot) →
    ∃ t : State,
      exec .commit s = .next t
        ∧ (∀ k : Slot, t.table[k] = (s.countedRegion k).record.map s.presented)
        ∧ (∀ k : Slot, t.shown[k] = (s.shown[k] && (s.table[k].isNone || t.table[k].isSome)))
        ∧ t.pool = [] ∧ t.commitsDue = rest
        ∧ t =
            { s with table := t.table, tagMaps := t.tagMaps, pool := t.pool, sessions := t.sessions, shown := t.shown,
                     scan := t.scan, resolver := t.resolver, alerts := t.alerts, commitsDue := t.commitsDue }

/-- R78, R79, R90, R91, R93, R104, R105: a commit applies each client's pending change and marks the cursors that remain; it is
material exactly as R90 says, and then starts a resolve of its frame number over the table it leaves and clears the first-commit
mark, while a quiet one leaves the Resolver. The candidates of that resolve are written out in Safety from R18 and R104 to R106:
the regions shown in FILL or FALLBACK, each with its rectangle, the content it gives its pixels and its place in the stack. -/
def Obligations.CommitSettlesSessionsAndStartsResolve : Prop :=
  ∀ (f : Word16) (rest : List Word16) (s : State),
    s.commitsDue = f :: rest → s.pool.Pairwise (fun a b => a.slot ≠ b.slot) →
    let material : Bool :=
      decide (s.pool ≠ []) || clients.any (fun n => decide ((s.sessions.get (.client n)).pending ≠ .noChange))
        || slots.any (fun k => (s.countedRegion k).expired) || s.scan.firstCommit
    let marked (r : SessionRecord) : SessionRecord := { r with cursor := r.cursor.map (fun c => { c with changed := true }) }
    ∃ t : State,
      exec .commit s = .next t
        ∧ (∀ n : Client,
            let r := s.sessions.get (.client n)
            t.sessions.get (.client n) =
              if r.pending = .drain then { r with state := .detached, pending := .noChange, cursor := none }
              else marked { r with state := r.stateAfter, pending := .noChange })
        ∧ t.sessions.sup = marked s.sessions.sup
        ∧ t.scan = { s.scan with firstCommit := s.scan.firstCommit && !material }
        ∧ t.resolver =
            if material then
              .resolving
                { epoch := f, width := s.scan.width, height := s.scan.height, background := s.scan.background,
                  candidates := slots.filterMap (fun k => t.table[k].bind (fun r => r.candidateOf k)) }
            else s.resolver

/-- R77, R79, R81 to R83, R86: what a commit tells the owners and the supervisor. A map loses the entries of the regions that
RELEASE and UNPIN entries free, a drained client's map is emptied, a lapsed region's entry gains LAPSED, and a retired one's
loses its slot and gains RETIRED, with LAPSED too where it lapsed in the same commit; no other notice is set. CLIENT_LAPSED is
raised for exactly the clients that owned a LIVE region when the commit began and after it own a region but none LIVE; no other
alert is raised. -/
def Obligations.CommitNotifiesOwnersAndSupervisor : Prop :=
  ∀ (f : Word16) (rest : List Word16) (s : State),
    s.commitsDue = f :: rest → s.pool.Pairwise (fun a b => a.slot ≠ b.slot) →
    let removed (x : Session) (e : TagEntry) : Bool :=
      e.slot.any (fun k =>
        s.table[k].any (fun r => decide (r.owner = x))
          && (s.entryFor k).any (fun z => decide (z.kind = .release ∨ z.kind = .unpin)))
    let counted (e : TagEntry) : TagEntry :=
      match e.slot.map s.countedRegion with
      | some (.lapsed _) => { e with notices := { e.notices with lapsed := true } }
      | some (.retired lapsedToo) =>
        { e with slot := none, notices := { e.notices with lapsed := e.notices.lapsed || lapsedToo, retired := true } }
      | _ => e
    ∃ t : State,
      exec .commit s = .next t
        ∧ (∀ x : Session, t.tagMaps.get x =
            if x ≠ .sup ∧ (s.sessions.get x).pending = .drain then []
            else ((s.tagMaps.get x).filter (fun e => !removed x e)).map counted)
        ∧ (let owns (v : State) (n : Client) (live : Bool) : Prop :=
            ∃ k : Slot, ∃ r ∈ v.table[k], r.owner = .client n ∧ (live = true → r.state = .live)
          let lapsed (n : Client) : Prop := owns s n true ∧ owns t n false ∧ ¬ owns t n true
          (∀ n : Client, t.alerts.clients[n] = true ↔ s.alerts.clients[n] = true ∨ lapsed n)
            ∧ (t.alerts.pending.clientLapsed = true ↔ s.alerts.pending.clientLapsed = true ∨ ∃ n, lapsed n)
            ∧ t.alerts =
                { s.alerts with
                  clients := t.alerts.clients
                  pending := { s.alerts.pending with clientLapsed := t.alerts.pending.clientLapsed } })

/-- R80 to R84: where a waiting commit lapses the region of a slot, or retires it at a remaining count of 0, as Safety's count
of the slot says, whatever entry or pending change that commit carries, LEASE_LAPSE of the slot is that commit; where it retires
the region at a grace_left of 0, GRACE_RETIRE is. The slot is then LAPSED or FREE with its mark clear, and every entry that
named it is noticed. In particular: where a commit waits and takes the remaining count of a counted region from 1 to 0,
LEASE_LAPSE of its slot is that commit: the region leaves it LAPSED with the configured grace and LAPSED noticed, or with grace
0 its slot FREE and both LAPSED and RETIRED noticed in an entry without a slot. Where it takes the grace_left of a LAPSED region
from 1 to 0, GRACE_RETIRE of its slot is that commit: the slot is FREE, and its entry has no slot and gains RETIRED. That the
two rows take the whole commit is the model's choice (log 4). -/
def Obligations.LapseAndRetireTakeTheCommit : Prop :=
  (∀ (k : Slot) (f : Word16) (rest : List Word16) (s : State),
    s.commitsDue = f :: rest → s.pool.Pairwise (fun a b => a.slot ≠ b.slot) →
    let noticed (t : State) (change : TagEntry → TagEntry) : Prop :=
      ∀ g ∈ s.table[k], ∀ e ∈ s.tagMaps.get g.owner, e.slot = some k → change e ∈ t.tagMaps.get g.owner
    (∀ r, s.countedRegion k = .lapsed r →
        ∃ t : State,
          exec (.leaseLapse k) s = .next t ∧ exec .commit s = .next t
            ∧ t.table[k] = some { r with presentation := .none }
            ∧ noticed t (fun e => { e with notices := { e.notices with lapsed := true } }))
      ∧ (s.countedRegion k = .retired true →
          ∃ t : State,
            exec (.leaseLapse k) s = .next t ∧ exec .commit s = .next t ∧ t.table[k] = none ∧ t.shown[k] = false
              ∧ noticed t (fun e =>
                  { e with slot := none, notices := { e.notices with lapsed := true, retired := true } }))
      ∧ (s.countedRegion k = .retired false →
          ∃ t : State,
            exec (.graceRetire k) s = .next t ∧ exec .commit s = .next t ∧ t.table[k] = none ∧ t.shown[k] = false
              ∧ noticed t (fun e => { e with slot := none, notices := { e.notices with retired := true } })))
    ∧ ∀ (n : Client) (k : Slot) (r : Region) (e : TagEntry) (f : Word16) (rest : List Word16) (s : State),
    s.commitsDue = f :: rest → s.table[k] = some r → r.owner = .client n →
    (s.sessions.get (.client n)).state = .attached → (s.sessions.get (.client n)).pending = .noChange →
    s.pool.Pairwise (fun a b => a.slot ≠ b.slot) → s.entryFor k = none → e ∈ s.tagMaps.get (.client n) → e.slot = some k →
    (r.state = .live → r.remaining = some 1 →
        ∃ t : State,
          exec (.leaseLapse k) s = .next t ∧ exec .commit s = .next t
            ∧ (s.scan.grace ≠ 0 →
                t.table[k] =
                    some { r with state := .lapsed, remaining := some 0, graceLeft := some s.scan.grace
                                  presentation := .none }
                  ∧ { e with notices := { e.notices with lapsed := true } } ∈ t.tagMaps.get (.client n))
            ∧ (s.scan.grace = 0 →
                t.table[k] = none ∧ t.shown[k] = false
                  ∧ { e with slot := none, notices := { e.notices with lapsed := true, retired := true } }
                      ∈ t.tagMaps.get (.client n)))
      ∧ (r.state = .lapsed → r.graceLeft = some 1 →
          ∃ t : State,
            exec (.graceRetire k) s = .next t ∧ exec .commit s = .next t ∧ t.table[k] = none ∧ t.shown[k] = false
              ∧ { e with slot := none, notices := { e.notices with retired := true } } ∈ t.tagMaps.get (.client n))

/-- R94, R95, R158: FORCE_COMMIT in STOPPED applies pool, session changes and presentations without a lease count, an alert, a
resolve or any change of Scan Control, and answers the summary; elsewhere it is refused with SCAN_STATE. That the frame field of
a summary of zeros is the current frame number is the model's, deduced from R94 and R95 (log 21). -/
def Obligations.ForceCommitCountsNoLease : Prop :=
  ∀ (q : Byte) (s : State),
    let r : Request := ⟨q, .forceCommit⟩
    s.choice = some (.sup, r) → s.pool.Pairwise (fun a b => a.slot ≠ b.slot) →
    let changes := (clients.filter (fun n => decide ((s.sessions.get (.client n)).pending ≠ .noChange))).length
    let marked (z : SessionRecord) : SessionRecord := { z with cursor := z.cursor.map (fun c => { c with changed := true }) }
    (s.scan.state ≠ .stopped → exec (.forceCommit .sup q) s = .next (s.answered .sup r (plainReply .scanState)))
      ∧ (s.scan.state = .stopped →
          ∃ u : State,
            exec (.forceCommit .sup q) s =
                .next
                  (u.answered .sup r
                    (okReply (.committed
                      { frame := s.scan.frame, applied := s.pool.length, sessionChanges := changes
                        freed := (slots.filter (fun k => s.table[k].isSome && u.table[k].isNone)).length
                        material := decide (s.pool ≠ []) || decide (changes ≠ 0) || s.scan.firstCommit })))
              ∧ u = { s with table := u.table, tagMaps := u.tagMaps, pool := [], sessions := u.sessions, shown := u.shown }
              ∧ (∀ k : Slot, u.table[k] = (s.settledRegion k).map s.presented)
              ∧ (∀ k : Slot, u.shown[k] = (s.shown[k] && (s.table[k].isNone || u.table[k].isSome)))
              ∧ (∀ n : Client,
                  let z := s.sessions.get (.client n)
                  u.sessions.get (.client n) =
                    if z.pending = .drain then { z with state := .detached, pending := .noChange, cursor := none }
                    else marked { z with state := z.stateAfter, pending := .noChange })
              ∧ u.sessions.sup = marked s.sessions.sup
              ∧ ∀ x : Session, u.tagMaps.get x =
                  if x ≠ .sup ∧ (s.sessions.get x).pending = .drain then []
                  else (s.tagMaps.get x).filter (fun e => !e.slot.any (fun k =>
                    s.table[k].any (fun g => decide (g.owner = x))
                      && (s.entryFor k).any (fun z => decide (z.kind = .release ∨ z.kind = .unpin)))))

/-! ### The Resolver and its plans (chapter 5) -/

/-- R101, R106, R108, R114, R115, R118: a completion makes the Resolver READY with a whole back plan of the resolve's epoch and
panel: tiled, maximal, within the limits, and exact, FULL over all candidates or REDUCED over the pinned ones alone. -/
def Obligations.CompletionBuildsTheExactPlan : Prop :=
  ∀ (j : ResolveJob) (s : State),
    s.resolver = .resolving j → j.Sound →
    ∃ p : Plan,
      exec .resolveCompletion s = .next { s with resolver := .ready p }
        ∧ p.epoch = j.epoch ∧ p.width = j.width ∧ p.height = j.height ∧ p.Tiles ∧ p.Maximal ∧ p.Fits
        ∧ (p.status = .full → p.Describes j.candidates j.background)
        ∧ (p.status = .reduced → p.Describes (j.candidates.filter (fun c => c.pinned)) j.background
            ∧ ∀ p' : Plan, p'.width = j.width → p'.height = j.height → p'.Tiles → p'.Maximal →
                p'.Describes j.candidates j.background →
                (∀ c ∈ j.candidates, ∀ d ∈ j.candidates, ∀ x y : Nat, c.Holds x y → d.Holds x y → c.level = d.level →
                  c.content = d.content) →
                ¬ p'.Fits)

/-- R109: a plan is fully determined by its ownership map: two tiled, maximal plans of one panel that give every pixel the same
content have the same band list. -/
def Obligations.PlanIsDeterminedByItsPixels : Prop :=
  ∀ p q : Plan, p.width = q.width → p.height = q.height → p.Tiles → q.Tiles → p.Maximal → q.Maximal →
    (∀ x y : Nat, x < p.width → y < p.height → p.contentAt x y = q.contentAt x y) → p.bands = q.bands

/-! ### The swap and the sync lines (chapters 6 and 7) -/

/-- R153, R151, R50: a VBLANK edge is ignored in STOPPED; otherwise SYNC_ORDER is raised if FSTART was expected, the frame number
is raised, FSTART is expected, and in PRIMING and RUNNING a commit of the raised number, the effective frame that requests
reported before it, is handed to the TC. -/
def Obligations.VblankRaisesTheFrame : Prop :=
  ∀ s : State, s.resetLow = false →
    (s.scan.state = .stopped → exec .vblank s = .next s)
      ∧ (s.scan.state ≠ .stopped →
          exec .vblank s =
            .next
              { s with
                scan := { s.scan with frame := s.scan.frame + 1, expect := .fstart }
                alerts := if s.scan.expect = .fstart then s.alerts.raise .syncOrder else s.alerts
                commitsDue := s.commitsDue ++ s.effectiveFrame.toList })
      ∧ (s.scan.state = .hold ∨ s.scan.state = .stopped → s.effectiveFrame = none)

/-- R154, R125: an FSTART edge is ignored in STOPPED, raises SYNC_ORDER alone when VBLANK is expected, and otherwise makes the
expectation VBLANK and reaches the Plan Store, which does nothing over an IDLE Resolver, raises PLAN_LATE alone over a running
resolve, and installs a READY plan. The frame number never changes. R155: where commits handed over still wait, the swap follows
them, so that FSTART acts as it does after COMMIT, and after a VBLANK it acts as after that VBLANK's commit; that the waiting
commits are taken within the FSTART is the model's (log 5). -/
def Obligations.FstartByScanStateAndResolver : Prop :=
  ∀ s : State, s.resetLow = false →
    let passed : State := { s with scan := { s.scan with expect := .vblank } }
    (s.scan.state = .stopped → exec .fstart s = .next s)
      ∧ (s.scan.state ≠ .stopped → s.scan.expect = .vblank →
          exec .fstart s = .next { s with alerts := s.alerts.raise .syncOrder })
      ∧ (s.scan.state ≠ .stopped → s.scan.expect = .fstart → s.commitsDue = [] →
          (s.resolver = .idle → exec .fstart s = .next passed)
            ∧ (∀ j, s.resolver = .resolving j →
                exec .fstart s = .next { passed with alerts := s.alerts.raise .planLate })
            ∧ (∀ p, s.resolver = .ready p →
                ∃ t, exec .fstart s = .next t ∧ t.front = some p ∧ t.resolver = .idle ∧ t.scan.expect = .vblank
                  ∧ t.scan.frame = s.scan.frame))
      ∧ (s.scan.state ≠ .stopped → s.scan.expect = .fstart → s.commitsDue ≠ [] →
          ∃ t, exec .commit s = .next t ∧ exec .fstart s = exec .fstart t ∧ t.commitsDue = s.commitsDue.tail)
      ∧ (s.scan.state = .priming ∨ s.scan.state = .running → s.commitsDue = [] →
          ∃ t u v, exec .vblank s = .next t ∧ exec .commit t = .next u ∧ exec .fstart t = .next v
            ∧ exec .fstart u = .next v ∧ v.scan.frame = s.scan.frame + 1 ∧ v.scan.expect = .vblank
            ∧ (∀ j, u.resolver = .resolving j →
                v = { u with scan := { u.scan with expect := .vblank }, alerts := u.alerts.raise .planLate }))
      ∧ ∀ t, exec .fstart s = .next t → t.scan.frame = s.scan.frame

/-- R126 to R131: the swap that installs a READY plan, no commit waiting: it becomes the front plan, the marks become those of the regions it names,
VISIBILITY is set where that differs from the mark, APPLIED where the region was awaiting, every awaiting flag is cleared,
PLAN_REDUCED and PIN_NOTICE are raised as R130 says, and PRIMING becomes RUNNING. -/
def Obligations.SwapInstallsTheReadyPlan : Prop :=
  ∀ (p : Plan) (s : State),
    s.resetLow = false → s.scan.state ≠ .stopped → s.scan.expect = .fstart → s.resolver = .ready p →
    s.commitsDue = [] →
    let names (k : Slot) : Bool := p.bands.any (fun b => b.spans.any (fun sp => decide (sp.content.slot = some k)))
    let noticed (e : TagEntry) : TagEntry :=
      match e.slot with
      | none => e
      | some k =>
        match s.table[k] with
        | none => e
        | some r =>
          { e with
            notices :=
              { applied := e.notices.applied || r.awaiting, lapsed := e.notices.lapsed, retired := e.notices.retired
                visibility :=
                  if names k = s.shown[k] then e.notices.visibility
                  else if names k then some .shown else some .hidden } }
    let woken := (s.tagMaps.get .sup).any (fun e =>
      decide (e.notices = NoticeSet.empty) && decide ((noticed e).notices ≠ NoticeSet.empty))
    ∃ t : State,
      exec .fstart s = .next t
        ∧ t = { s with table := t.table, tagMaps := t.tagMaps, shown := t.shown, front := some p, resolver := .idle
                       scan := { s.scan with expect := .vblank, state := if s.scan.state = .priming then .running
                                                                         else s.scan.state }
                       alerts := t.alerts }
        ∧ (∀ k : Slot, t.table[k] = s.table[k].map (fun r => { r with awaiting := false }))
        ∧ (∀ k : Slot, t.shown[k] = (s.table[k].isSome && names k))
        ∧ (∀ x : Session, t.tagMaps.get x = (s.tagMaps.get x).map noticed)
        ∧ t.alerts =
            { s.alerts with
              pending :=
                { s.alerts.pending with
                  planReduced := s.alerts.pending.planReduced || decide (p.status = .reduced)
                  pinNotice := s.alerts.pending.pinNotice || woken } }

/-- R139, R140: PROBE of a pixel within the panel answers the no-plan flag without a front plan, and else the band, the span and
its owner, with slot and tag for the requester's own span only and the stale flag where its region has gone. It changes
nothing but the port. -/
def Obligations.ProbeReportsThePixel : Prop :=
  ∀ (port : Port) (q : Byte) (x y : Word16) (s : State),
    let r : Request := ⟨q, .probe x y⟩
    s.choice = some (port, r) →
    (port ≠ .sup → (s.sessions.get port).state = .attached ∨ (s.sessions.get port).state = .suspended) →
    s.scan.height ≠ 0 → s.scan.width ≠ 0 →
    (s.scan.width ≤ x.toNat ∨ s.scan.height ≤ y.toNat →
        exec (.probe port q x y) s = .next (s.answered port r (plainReply .outOfBounds)))
      ∧ (x.toNat < s.scan.width → y.toNat < s.scan.height →
          (s.front = none → exec (.probe port q x y) s = .next (s.answered port r (okReply (.probe none))))
            ∧ ∀ p ∈ s.front, p.Tiles → p.width = s.scan.width → p.height = s.scan.height →
                ∃ b ∈ p.bands, ∃ sp ∈ b.spans,
                  b.y0 ≤ y.toNat ∧ y.toNat < b.y1 ∧ sp.x0 ≤ x.toNat ∧ x.toNat < sp.x1
                    ∧ ∃ slot tag stale,
                        exec (.probe port q x y) s =
                            .next
                              (s.answered port r
                                (okReply (.probe (some
                                  { epoch := p.epoch, status := p.status, y0 := b.y0, y1 := b.y1, x0 := sp.x0,
                                    x1 := sp.x1, kind := sp.content.kind, owner := sp.content.owner, slot := slot,
                                    tag := tag, stale := stale }))))
                          ∧ (sp.content.owner ≠ some port → slot = none ∧ tag = none ∧ stale = false)
                          ∧ (sp.content.owner = some port → ∀ k ∈ sp.content.slot,
                              slot = some k
                                ∧ (s.shown[k] = true → tag = s.table[k].map (fun g => g.tag) ∧ stale = false)
                                ∧ (s.shown[k] = false → tag = none ∧ stale = true)))

/-- R144, R145, R147 to R149: START, HOLD and RESUME_SCAN taken in their states change the scan state as their rules say and answer
the scan report of what they leave; START checks the geometry next. STOP, in any state, leaves STOPPED with no first-commit mark,
no resolve, no back or front plan and no shown mark. Everything else is kept. -/
def Obligations.StartHoldResumeAndStop : Prop :=
  ∀ (q : Byte) (s : State),
    let report (st : ScanState) (e : SyncLine) : Reply :=
      okReply (.scan { state := st, frame := s.scan.frame, expect := e, resolver := s.resolver.phase })
    (s.choice = some (.sup, ⟨q, .start⟩) → s.scan.state = .stopped →
        (s.scan.width = 0 ∨ s.scan.height = 0 →
            exec (.start .sup q) s = .next (s.answered .sup ⟨q, .start⟩ (plainReply .notConfigured)))
          ∧ (s.scan.width ≠ 0 → s.scan.height ≠ 0 →
              exec (.start .sup q) s =
                .next
                  (({ s with
                      scan := { s.scan with state := .priming, expect := .vblank, firstCommit := true } } : State).answered
                    .sup ⟨q, .start⟩ (report .priming .vblank))))
      ∧ (s.choice = some (.sup, ⟨q, .hold⟩) → s.scan.state = .running →
          exec (.hold .sup q) s =
            .next
              (({ s with scan := { s.scan with state := .hold } } : State).answered .sup ⟨q, .hold⟩
                (report .hold s.scan.expect)))
      ∧ (s.choice = some (.sup, ⟨q, .resumeScan⟩) → s.scan.state = .hold →
          exec (.resumeScan .sup q) s =
            .next
              (({ s with scan := { s.scan with state := .running } } : State).answered .sup ⟨q, .resumeScan⟩
                (report .running s.scan.expect)))
      ∧ (s.choice = some (.sup, ⟨q, .stop⟩) →
          exec (.stop .sup q) s =
            .next
              (({ s with
                  scan := { s.scan with state := .stopped, firstCommit := false }
                  resolver := .idle
                  front := none
                  shown := Vector.replicate 64 false } : State).answered .sup ⟨q, .stop⟩
                (okReply (.scan { state := .stopped, frame := s.scan.frame, expect := s.scan.expect, resolver := .idle }))))

/-- R144: the scan requests in the states that their table does not mark "taken" are answered SCAN_STATE and change nothing. -/
def Obligations.ScanRequestsRefusedByState : Prop :=
  ∀ (q g : Byte) (w h : Word16) (bg : Colour) (s : State),
    let all : List ScanState := [.stopped, .priming, .running, .hold]
    ∀ cr ∈ [(Instr.start .sup q, Call.start, [ScanState.stopped]), (.hold .sup q, .hold, [.running]),
        (.resumeScan .sup q, .resumeScan, [.hold]), (.stop .sup q, .stop, all), (.forceCommit .sup q, .forceCommit, [.stopped]),
        (.configure .sup q w h bg g, .configure w h bg g, [.stopped]),
        (.clearTable .sup q, .clearTable, [.stopped, .hold]), (.softReset .sup q, .softReset, all)],
      s.choice = some (.sup, ⟨q, cr.2.1⟩) →
      (s.scan.state ∉ cr.2.2 → exec cr.1 s = .next (s.answered .sup ⟨q, cr.2.1⟩ (plainReply .scanState)))
        ∧ (s.scan.state ∈ cr.2.2 →
            ∀ t, exec cr.1 s = .next t →
              ∃ z, (t.ports.get .sup).responses.getLast? = some z ∧ z.reply.code ≠ .scanState)

/-- R156, R157: CONFIGURE in STOPPED checks the values, then every rectangle held or staged against the new panel, naming the
lowest slot that fails, and then writes the four fields and answers them. -/
def Obligations.ConfigureWritesThePanel : Prop :=
  ∀ (q g : Byte) (w h : Word16) (bg : Colour) (s : State),
    let r : Request := ⟨q, .configure w h bg g⟩
    let c : Instr := .configure .sup q w h bg g
    s.choice = some (.sup, r) → s.scan.state = .stopped →
    let valid := 16 ≤ w.toNat ∧ w.toNat ≤ 4096 ∧ 16 ≤ h.toNat ∧ h.toNat ≤ 4096 ∧ g.toNat ≤ 15
    let beyond (z : Rect) : Prop := w.toNat < z.x1 ∨ h.toNat < z.y1
    let fails (k : Slot) : Prop :=
      ∃ o ∈ s.table[k], (∃ z ∈ o.rect, beyond z) ∨ ∃ e ∈ s.entryFor k, ∃ z ∈ e.fields.rect, beyond z
    (¬ valid → exec c s = .next (s.answered .sup r (plainReply .badRequest)))
      ∧ (valid → ∀ k : Slot, fails k → (∀ j : Slot, j < k → ¬ fails j) →
          exec c s =
            .next (s.answered .sup r { code := .geometryConflict, body := .conflict k, records := [] }))
      ∧ (valid → (∀ k : Slot, ¬ fails k) →
          exec c s =
            .next
              (({ s with
                  scan :=
                    { s.scan with width := w.toNat, height := h.toNat, background := bg, grace := g.toNat } } :
                  State).answered .sup r (okReply (.configuration w.toNat h.toNat bg g.toNat))))

/-- R23, R159, R160: CLEAR_TABLE in STOPPED or HOLD frees every slot, empties the pool and the maps and clears marks and cursors,
keeps sessions, Scan Control and alerts, and in HOLD abandons the resolve and installs the background-only plan; it answers the
scan report and what it freed and discarded. -/
def Obligations.ClearTableEmptiesTheTable : Prop :=
  ∀ (q : Byte) (s : State),
    s.choice = some (.sup, ⟨q, .clearTable⟩) → s.scan.state = .stopped ∨ s.scan.state = .hold →
    let held := decide (s.scan.state = .hold)
    ∃ u : State,
      exec (.clearTable .sup q) s =
          .next
            (u.answered .sup ⟨q, .clearTable⟩
              (okReply (.cleared
                { state := s.scan.state, frame := s.scan.frame, expect := s.scan.expect
                  resolver := if held then .idle else s.resolver.phase }
                (slots.filter (fun k => s.table[k].isSome)).length s.pool.length)))
        ∧ u =
            { s with
              table := Vector.replicate 64 none, shown := Vector.replicate 64 false, pool := [], tagMaps := u.tagMaps
              sessions := u.sessions, resolver := if held then .idle else s.resolver
              front :=
                if held then
                  some
                    { epoch := s.scan.frame, status := .full, width := s.scan.width, height := s.scan.height
                      bands :=
                        [{ y0 := 0, y1 := s.scan.height
                           spans :=
                            [{ x0 := 0, x1 := s.scan.width
                               content :=
                                { kind := .background, owner := none, slot := none, stream := none
                                  colour := some s.scan.background } }] }] }
                else s.front }
        ∧ ∀ x : Session, u.tagMaps.get x = [] ∧ u.sessions.get x = { s.sessions.get x with cursor := none }

/-- R161, R188, R196: SOFT_RESET, block by block. -/
def Obligations.SoftResetBlockByBlock : Prop :=
  ∀ (q : Byte) (s : State),
    s.choice = some (.sup, ⟨q, .softReset⟩) →
    ∃ t : State,
      exec (.softReset .sup q) s = .next t
        ∧ t.table = Vector.replicate 64 none ∧ t.shown = Vector.replicate 64 false ∧ t.pool = []
        ∧ (∀ x : Session, t.tagMaps.get x = [])
        ∧ (∀ n : Client, t.sessions.get (.client n) =
            { s.sessions.get (.client n) with state := .detached, pending := .noChange, evicted := false, cursor := none })
        ∧ t.sessions.sup = { s.sessions.sup with cursor := none }
        ∧ t.scan = { s.scan with state := .stopped, frame := 0, expect := .vblank, firstCommit := false }
        ∧ t.resolver = .idle ∧ t.front = none ∧ t.commitsDue = []
        ∧ t.alerts.pending =
            { planLate := false, planReduced := false, syncOrder := false, stageFull := false, clientLapsed := false,
              framing := false, pinNotice := false }
        ∧ (∀ n : Client, t.alerts.clients[n] = false) ∧ (∀ p : Port, t.alerts.ports.get p = false)
        ∧ t.alerts.mask = s.alerts.mask
        ∧ (∀ n : Client, (t.ports.get (.client n)).buffer = [] ∧ (t.ports.get (.client n)).responses = [])
        ∧ (t.ports.get .sup).buffer = (s.ports.get .sup).buffer.tail
        ∧ (t.ports.get .sup).responses = [{ kind := .softReset, seq := q, reply := plainReply .ok }]
        ∧ (∀ p : Port, (∀ z b, (s.ports.get p).transaction ≠ .sending z b) →
            (t.ports.get p).transaction = (s.ports.get p).transaction)
        ∧ (∀ p : Port, ∀ z b, (s.ports.get p).transaction = .sending z b → (t.ports.get p).transaction = .sending z false)
        ∧ t.lastServed = 3 ∧ t.link = s.link ∧ t.resetLow = s.resetLow ∧ t.pending = s.pending

/-- R142: what RESET_N, SOFT_RESET, START, STOP and CLEAR_TABLE leave in the fields of Scan Control. -/
def Obligations.ScanControlAfterResetsAndRequests : Prop :=
  ∀ (q : Byte) (s t : State),
    (exec (.resetN .low) s = .next t →
        t.scan = { state := .stopped, frame := 0, expect := .vblank, width := 0, height := 0, background := 0x000000#24,
                   grace := 4, firstCommit := false })
      ∧ (s.choice = some (.sup, ⟨q, .softReset⟩) → exec (.softReset .sup q) s = .next t →
          t.scan = { s.scan with state := .stopped, frame := 0, expect := .vblank, firstCommit := false })
      ∧ (s.choice = some (.sup, ⟨q, .start⟩) → s.scan.state = .stopped → s.scan.width ≠ 0 → s.scan.height ≠ 0 →
          exec (.start .sup q) s = .next t →
          t.scan = { s.scan with state := .priming, expect := .vblank, firstCommit := true })
      ∧ (s.choice = some (.sup, ⟨q, .stop⟩) → exec (.stop .sup q) s = .next t →
          t.scan = { s.scan with state := .stopped, firstCommit := false })
      ∧ (s.choice = some (.sup, ⟨q, .clearTable⟩) → exec (.clearTable .sup q) s = .next t → t.scan = s.scan)

/-- R202, R22, R41, R46, R97, R122, R133, R142, R171, R188, R196: RESET_N low puts every block at its reset value and holds each
selected port in IGNORING; when it rises the part goes on from there. The values are those of State.reset and are written out
here; that SUP's record holds quota 8, ceiling 0 and lease maximum 255 is the model's (log 15). -/
def Obligations.ResetPinHoldsEveryBlock : Prop :=
  ∀ s : State,
    (∃ t : State,
        exec (.resetN .low) s = .next t
          ∧ t = { State.reset with ports := t.ports, resetLow := true, pending := s.pending }
          ∧ t.table = Vector.replicate 64 none ∧ t.shown = Vector.replicate 64 false ∧ t.pool = []
          ∧ (∀ x : Session, t.tagMaps.get x = [])
          ∧ (∀ n : Client, t.sessions.get (.client n) =
              { state := .detached, quota := 0, ceiling := 0, leaseMax := 255, pending := .noChange, evicted := false,
                cursor := none })
          ∧ t.sessions.sup =
              { state := .attached, quota := 8, ceiling := 0, leaseMax := 255, pending := .noChange, evicted := false,
                cursor := none }
          ∧ t.scan = { state := .stopped, frame := 0, expect := .vblank, width := 0, height := 0,
                       background := 0x000000#24, grace := 4, firstCommit := false }
          ∧ t.resolver = .idle ∧ t.front = none ∧ t.link = .idle ∧ t.commitsDue = [] ∧ t.lastServed = 3
          ∧ t.alerts.pending =
              { planLate := false, planReduced := false, syncOrder := false, stageFull := false, clientLapsed := false,
                framing := false, pinNotice := false }
          ∧ (∀ n : Client, t.alerts.clients[n] = false) ∧ (∀ p : Port, t.alerts.ports.get p = false)
          ∧ t.alerts.mask =
              { planLate := true, planReduced := true, syncOrder := true, stageFull := true, clientLapsed := true,
                framing := true, pinNotice := true }
          ∧ t.resetLow = true ∧ t.pending = s.pending
          ∧ (∀ p : Port, (t.ports.get p).buffer = [] ∧ (t.ports.get p).responses = []
              ∧ (t.ports.get p).transaction = if (s.ports.get p).transaction = .idle then .idle else .ignoring)
          ∧ t.alertLine = false ∧ ∀ n : Client, t.attention n = false)
      ∧ exec (.resetN .high) s = .next { s with resetLow := false }

/-- R199, R200: READ_STATUS answers the standing of the part, SUP's row as the rule fixes it, and changes nothing but the port. The
record that it answers goes out as the 58 bytes that R200 lays out, written out in Safety from its first offset to its last. -/
def Obligations.ReadStatusReportsThePart : Prop :=
  ∀ (q : Byte) (s : State),
    s.choice = some (.sup, ⟨q, .readStatus⟩) →
    let owned (x : Session) : Nat := (slots.filter (fun k => s.table[k].any (fun r => decide (r.owner = x)))).length
    ∃ rows : PerSession SessionRow,
      exec (.readStatus .sup q) s =
          .next
            (s.answered .sup ⟨q, .readStatus⟩
              (okReply (.status
                { state := s.scan.state, frame := s.scan.frame, expect := s.scan.expect, resolver := s.resolver.phase
                  front := s.front.map (fun p => (p.epoch, p.status)), occupancy := s.pool.length, pinned := owned .sup
                  width := s.scan.width, height := s.scan.height, background := s.scan.background, grace := s.scan.grace
                  rows := rows })))
        ∧ (∀ x : Session,
            let z := s.sessions.get x
            rows.get x =
              { state := z.state, pending := z.pending, quota := z.quota, ceiling := z.ceiling, leaseMax := z.leaseMax
                evicted := z.evicted, regionCount := owned x, entryCount := (s.tagMaps.get x).length })
        ∧ (s.SessionsLegal →
            rows.sup =
              { state := .attached, pending := .noChange, quota := 8, ceiling := 0, leaseMax := 255, evicted := false
                regionCount := owned .sup, entryCount := (s.tagMaps.get .sup).length })
        ∧ ∀ z : StatusRecord, (Body.status z).bytes = z.asSent ∧ z.asSent.length = 58

/-! ### Notices and alerts (chapter 8) -/

/-- R166, R167: FETCH_NOTICES delivers the first 8 entries with notices in tag order, clears their sets, removes those without a
slot, leaves every other entry, and says whether notices remain; a DETACHED client is refused. R170, R202: in every state ATNn is
asserted exactly while client n's map holds an entry with notices and RESET_N is high, so that after a client's fetch its line is
asserted exactly where more is set, and the other lines are as they were. -/
def Obligations.FetchNoticesDeliversAndClears : Prop :=
  (∀ (n : Client) (s : State),
    s.attention n = true ↔ s.resetLow = false ∧ ∃ e ∈ s.tagMaps.get (.client n), e.notices ≠ NoticeSet.empty)
    ∧ ∀ (p : Port) (q : Byte) (s : State),
    let r : Request := ⟨q, .fetchNotices⟩
    s.choice = some (p, r) → orderedMap (s.tagMaps.get p) →
    let holding := (s.tagMaps.get p).filter (fun e => decide (e.notices ≠ NoticeSet.empty))
    let out := holding.take 8
    (p ≠ .sup → (s.sessions.get p).state = .detached →
        exec (.fetchNotices p q) s = .next (s.answered p r (plainReply .notAttached)))
      ∧ ((p ≠ .sup → (s.sessions.get p).state ≠ .detached) →
          exec (.fetchNotices p q) s =
            .next
              (({ s with
                  tagMaps :=
                    s.tagMaps.set p
                      ((s.tagMaps.get p).filterMap (fun e =>
                        if e ∈ out then e.slot.map (fun _ => { e with notices := NoticeSet.empty }) else some e)) } :
                  State).answered p r
                { code := .ok, body := .notices out.length (decide (8 < holding.length)), records := out.map .notice })
            ∧ ∀ t, exec (.fetchNotices p q) s = .next t → ∀ n : Client,
                t.attention n = if p = .client n then decide (8 < holding.length) else s.attention n)

/-- R173 to R176: FETCH_ALERTS delivers the whole pending set with its payloads and the mask, empties it, and raises PIN_NOTICE
again where a SUP entry still holds notices. ALERT is asserted exactly while a pending kind is enabled and RESET_N is high
(R202). SET_ALERT_MASK with bit 7 clear replaces the mask, keeps the pending set and answers both, and ALERT then follows the
new mask; with bit 7 set it is refused. -/
def Obligations.AlertRequestsDeliverAndMask : Prop :=
  (∀ (q : Byte) (s : State),
    s.choice = some (.sup, ⟨q, .fetchAlerts⟩) →
    let held := (s.tagMaps.get .sup).any (fun e => decide (e.notices ≠ NoticeSet.empty))
    ∃ u : State,
      exec (.fetchAlerts .sup q) s =
          .next
            (u.answered .sup ⟨q, .fetchAlerts⟩
              (okReply (.alerts s.alerts.pending s.alerts.clients s.alerts.ports s.alerts.mask held)))
        ∧ u = { s with alerts := u.alerts }
        ∧ u.alerts.pending =
            { planLate := false, planReduced := false, syncOrder := false, stageFull := false, clientLapsed := false,
              framing := false, pinNotice := held }
        ∧ (∀ n : Client, u.alerts.clients[n] = false) ∧ (∀ p : Port, u.alerts.ports.get p = false)
        ∧ u.alerts.mask = s.alerts.mask)
    ∧ (∀ s : State, s.alertLine = true ↔
        s.resetLow = false
          ∧ ∃ b ∈ [(s.alerts.pending.planLate, s.alerts.mask.planLate), (s.alerts.pending.planReduced, s.alerts.mask.planReduced),
              (s.alerts.pending.syncOrder, s.alerts.mask.syncOrder), (s.alerts.pending.stageFull, s.alerts.mask.stageFull),
              (s.alerts.pending.clientLapsed, s.alerts.mask.clientLapsed), (s.alerts.pending.framing, s.alerts.mask.framing),
              (s.alerts.pending.pinNotice, s.alerts.mask.pinNotice)], b.1 = true ∧ b.2 = true)
    ∧ (∀ (q m : Byte) (s : State),
    let r : Request := ⟨q, .setAlertMask m⟩
    s.choice = some (.sup, r) →
    let mask : AlertFlags :=
      { planLate := m.getLsbD 0, planReduced := m.getLsbD 1, syncOrder := m.getLsbD 2, stageFull := m.getLsbD 3,
        clientLapsed := m.getLsbD 4, framing := m.getLsbD 5, pinNotice := m.getLsbD 6 }
    (m.getLsbD 7 = true → exec (.setAlertMask .sup q m) s = .next (s.answered .sup r (plainReply .badRequest)))
      ∧ (m.getLsbD 7 = false →
          let t := ({ s with alerts := { s.alerts with mask := mask } } : State).answered .sup r
            (okReply (.alertMask mask s.alerts.pending))
          exec (.setAlertMask .sup q m) s = .next t
            ∧ (t.alertLine = true ↔
                (s.alerts.pending.planLate = true ∧ m.getLsbD 0 = true)
                  ∨ (s.alerts.pending.planReduced = true ∧ m.getLsbD 1 = true)
                  ∨ (s.alerts.pending.syncOrder = true ∧ m.getLsbD 2 = true)
                  ∨ (s.alerts.pending.stageFull = true ∧ m.getLsbD 3 = true)
                  ∨ (s.alerts.pending.clientLapsed = true ∧ m.getLsbD 4 = true)
                  ∨ (s.alerts.pending.framing = true ∧ m.getLsbD 5 = true)
                  ∨ (s.alerts.pending.pinNotice = true ∧ m.getLsbD 6 = true))))

/-! ### Table walks (chapter 9) -/

/-- R178 to R181: WALK_START and WALK_NEXT report the first 4 items in key order that their filter admits, a client's by tag and
SUP's by slot, WALK_NEXT those after the cursor's key; they set the cursor to the last key reported, clear it when nothing is
reported, and change nothing else. -/
def Obligations.WalksReportInKeyOrder : Prop :=
  ∀ (p : Port) (q b : Byte) (s : State),
    (p ≠ .sup → (s.sessions.get p).state = .attached ∨ (s.sessions.get p).state = .suspended) →
    let admits (f : StateFilter) (k : Slot) : Bool := s.table[k].any (fun r =>
      match r.state with
      | .stagedNew => f.stagedNew
      | .live => f.live
      | .lapsed => f.lapsed
      | .retiring => f.retiring)
    let items (f : StateFilter) : List (Nat × Slot) :=
      if p = .sup then (slots.filter (admits f)).map (fun k => (k.val, k))
      else (s.tagMaps.get p).filterMap (fun e => (e.slot.filter (admits f)).map (fun k => (e.tag.toNat, k)))
    let result (r : Request) (l : List (Nat × Slot)) (f : StateFilter) (changed : Bool) (start : Word16) : State :=
      let out := l.take 4
      ({ s with
          sessions :=
            s.sessions.set p
              { s.sessions.get p with
                cursor := out.getLast?.map (fun i => { key := i.1, filter := f, startFrame := start, changed := changed }) } } :
          State).answered p r
        { code := .ok, body := .walk out.length (decide (4 < l.length)) changed start
          records := out.map (fun i => .region (s.regionReport i.2)) }
    (s.choice = some (p, ⟨q, .walkStart b⟩) →
        (b = 0 ∨ 15 < b.toNat → exec (.walkStart p q b) s = .next (s.answered p ⟨q, .walkStart b⟩ (plainReply .badRequest)))
          ∧ (b ≠ 0 → b.toNat ≤ 15 →
              let f : StateFilter :=
                { stagedNew := b.getLsbD 0, live := b.getLsbD 1, lapsed := b.getLsbD 2, retiring := b.getLsbD 3 }
              exec (.walkStart p q b) s = .next (result ⟨q, .walkStart b⟩ (items f) f false s.scan.frame)))
      ∧ (s.choice = some (p, ⟨q, .walkNext⟩) →
          ((s.sessions.get p).cursor = none →
              exec (.walkNext p q) s = .next (s.answered p ⟨q, .walkNext⟩ (plainReply .noCursor)))
            ∧ ∀ c ∈ (s.sessions.get p).cursor,
                exec (.walkNext p q) s =
                  .next
                    (result ⟨q, .walkNext⟩ ((items c.filter).filter (fun i => decide (c.key < i.1))) c.filter c.changed
                      c.startFrame))

/-! ### The scan link (chapter 6) -/

/-- R133, R135, R136, R201: with the interface IDLE, PLAN is answered with the front plan's epoch, status, band count, W and H, LINE
with the one band that holds the line, its index and the plan's epoch, or RANGE at or above the plan's H, either with NO_PLAN
without a plan, and an unknown code with RANGE. Each makes the interface ANSWERING and changes nothing else; ANSWER_SENT makes
it IDLE. An ANSWERING interface sends the bytes of its answer, written out in Safety from R201, and then the two of a LINK_BUSY for
each refused query in order; a BAND's answer takes the same form. -/
def Obligations.PlanLineAndUnknownQueries : Prop :=
  (∀ (code : Byte) (y : Word16) (s : State), s.resetLow = false → s.link = .idle →
    let answered (a : Answer) : State := { s with link := .answering a [] }
    (s.front = none → exec .planQuery s = .next (answered (.noPlan 0x01#8)))
      ∧ (∀ p ∈ s.front,
          exec .planQuery s = .next (answered (.plan p.epoch p.status p.bands.length p.width p.height)))
      ∧ (code ≠ 0x01#8 → code ≠ 0x02#8 → code ≠ 0x03#8 → exec (.unknownQuery code) s = .next (answered (.range code)))
      ∧ (∀ (a : Answer) (l : List Byte), exec .answerSent { s with link := .answering a l } = .next s)
      ∧ (s.front = none → exec (.lineQuery y) s = .next (answered (.noPlan 0x02#8)))
      ∧ ∀ p ∈ s.front,
          (p.height ≤ y.toNat → exec (.lineQuery y) s = .next (answered (.range 0x02#8)))
            ∧ (y.toNat < p.height → p.Tiles →
                ∃ (i : Nat) (b : Band),
                  p.bands[i]? = some b ∧ b.y0 ≤ y.toNat ∧ y.toNat < b.y1
                    ∧ exec (.lineQuery y) s = .next (answered (.band 0x02#8 p.epoch i b))))
    ∧ Link.idle.bytes = []
    ∧ ∀ (a : Answer) (owed : List Byte),
        (Link.answering a owed).bytes = a.asSent ++ (owed.map (fun code => [0x82#8, code])).flatten

/-- R137: BAND is answered with the band of its index, NO_PLAN without a plan, and RANGE at or above the band count. -/
def Obligations.BandQueryAnswersItsIndex : Prop :=
  ∀ (i : Byte) (s : State), s.resetLow = false → s.link = .idle →
    let answered (a : Answer) : State := { s with link := .answering a [] }
    (s.front = none → exec (.bandQuery i) s = .next (answered (.noPlan 0x03#8)))
      ∧ ∀ p ∈ s.front,
          (p.bands.length ≤ i.toNat → exec (.bandQuery i) s = .next (answered (.range 0x03#8)))
            ∧ ∀ b, p.bands[i.toNat]? = some b →
                exec (.bandQuery i) s = .next (answered (.band 0x03#8 p.epoch i.toNat b))

/-- R133, R134, R201: the bytes of PLAN, LINE, BAND and of any other code, and of nothing else, spell a query. A query that
arrives while an answer is sent is refused: a LINK_BUSY for its code is owed after those owed already, the answer in progress
stays as it was fixed, and the interface stays ANSWERING. Nothing but such a query, and ANSWER_SENT and RESET_N, which leave it
IDLE, changes the interface. -/
def Obligations.AnswerInProgressIsFixed : Prop :=
  (∀ (l : List Byte) (c : Instr),
    queryOfBytes l = some c ↔
      (l = [0x01#8] ∧ c = .planQuery) ∨ (∃ hi lo : Byte, l = [0x02#8, hi, lo] ∧ c = .lineQuery (hi ++ lo))
        ∨ (∃ i, l = [0x03#8, i] ∧ c = .bandQuery i)
        ∨ (∃ code, code ≠ 0x01#8 ∧ code ≠ 0x02#8 ∧ code ≠ 0x03#8 ∧ l = [code] ∧ c = .unknownQuery code))
    ∧ ∀ (a : Answer) (owed : List Byte) (s : State), s.resetLow = false → s.link = .answering a owed →
        let refused (code : Byte) : State := { s with link := .answering a (owed ++ [code]) }
        (∀ (code : Byte) (rest : List Byte) (c : Instr), queryOfBytes (code :: rest) = some c →
            exec c s = .next (refused code))
          ∧ ∀ (c : Instr) (t : State), exec c s = .next t → t.link ≠ s.link →
              (∃ code rest, queryOfBytes (code :: rest) = some c ∧ t = refused code)
                ∨ (c = .answerSent ∧ t = { s with link := .idle }) ∨ (c = .resetN .low ∧ t.link = .idle)

/-! ### Ports (chapter 10) -/

/-- R188 to R190, R200: the bytes of any request, written in one transaction to an idle port in any number of pieces, are held by
the port until its last byte, and then, or at once after the header where the kind has no body, leave that request at the end of
its buffer with status ACCEPTED, or with 4 requests waiting are discarded with status FULL; the other ports and blocks are
untouched. However the header or the body is cut into h, m and g with g not empty, a port that holds h and receives m holds h and
m, the third header byte ends the header whatever part of it is held, and the rest of the body decides the request. That bytes
short of the third header byte come by REQUEST_DECISION is the model's choice (log 6). -/
def Obligations.WrittenRequestReachesTheBuffer : Prop :=
  ∀ (p : Port) (r : Request) (s : State),
    s.resetLow = false → (s.ports.get p).transaction = .idle →
    let old := s.ports.get p
    let left (q : PortState) : State := { s with ports := s.ports.set p q }
    let during (x : Transaction) : State := left { old with transaction := x }
    let decided : State :=
      left
        (if old.buffer.length < 4 then { old with buffer := old.buffer ++ [r], transaction := .status .accepted }
        else { old with transaction := .status .full })
    ∃ length body, r.bytes = r.call.kind.code :: r.seq :: length :: body ∧ body.length = r.call.kind.bodyLength
      ∧ exec (.selectFall p) s = .next (during .command)
      ∧ exec (.writeCommand p) (during .command) = .next (during (.header []))
      ∧ (∀ h m g : List Byte, h ++ m ++ g = [r.call.kind.code, r.seq, length] → g ≠ [] →
          exec (.requestDecision p m) (during (.header h)) = .next (during (.header (h ++ m)))
            ∧ exec (.headerFramingCheck p r.call.kind.code r.seq length) (during (.header h)) =
                .next (if body = [] then decided else during (.body r.call.kind r.seq [])))
      ∧ ∀ h m g : List Byte, h ++ m ++ g = body → g ≠ [] →
          exec (.requestDecision p m) (during (.body r.call.kind r.seq h)) =
              .next (during (.body r.call.kind r.seq (h ++ m)))
            ∧ exec (.requestDecision p (m ++ g)) (during (.body r.call.kind r.seq h)) = .next decided

/-- R200: the kind table, row by row, and the region field block, from its first offset to its last. The kind table and the body
layouts read back what they write: every request's kind code names its kind, its body has that kind's length and spells the
request again, and what a body spells is written as that body; a body of another length spells nothing. -/
def Obligations.RequestBytesRoundTrip : Prop :=
  (∀ c : Call, kindOfCode c.kind.code = some c.kind ∧ c.bytes.length = c.kind.bodyLength
      ∧ callOfBytes c.kind c.bytes = some c)
    ∧ (∀ (k : Kind) (l : List Byte) (c : Call), callOfBytes k l = some c → c.kind = k ∧ c.bytes = l)
    ∧ (∀ (k : Kind) (l : List Byte), callOfBytes k l = none ↔ l.length ≠ k.bodyLength)
    ∧ (∀ (b : Byte) (k : Kind), kindOfCode b = some k → k.code = b)
    ∧ (∀ row ∈ [(Kind.attach, 0x01#8, 0), (.detach, 0x02#8, 0), (.openRegion, 0x03#8, 23), (.amend, 0x04#8, 23), (.renew, 0x05#8, 2),
          (.release, 0x06#8, 2), (.lookup, 0x07#8, 2), (.probe, 0x08#8, 4), (.walkStart, 0x09#8, 1), (.walkNext, 0x0A#8, 0),
          (.fetchNotices, 0x0B#8, 0), (.pin, 0x20#8, 23), (.unpin, 0x21#8, 2), (.lookupSlot, 0x22#8, 1), (.setLimits, 0x23#8, 4),
          (.suspend, 0x24#8, 1), (.resume, 0x25#8, 1), (.evict, 0x26#8, 1), (.configure, 0x27#8, 8), (.start, 0x28#8, 0),
          (.hold, 0x29#8, 0), (.resumeScan, 0x2A#8, 0), (.stop, 0x2B#8, 0), (.forceCommit, 0x2C#8, 0), (.clearTable, 0x2D#8, 0),
          (.softReset, 0x2E#8, 0), (.readStatus, 0x2F#8, 0), (.fetchAlerts, 0x30#8, 0), (.setAlertMask, 0x31#8, 1)],
        row.1.code = row.2.1 ∧ row.1.bodyLength = row.2.2)
    ∧ ∀ (b : FieldBlock) (t x y w h : Word16) (v n l m : Byte) (bg : Colour),
        (∀ c ∈ [Call.openRegion b, .amend b, .pin b], c.bytes = blockAsSent b)
          ∧ (∀ c ∈ [Call.renew t, .release t, .lookup t, .unpin t], c.bytes = twoBytes t.toNat)
          ∧ (∀ c ∈ [Call.walkStart v, .lookupSlot v, .suspend v, .resume v, .evict v, .setAlertMask v], c.bytes = [v])
          ∧ (Call.probe x y).bytes = twoBytes x.toNat ++ twoBytes y.toNat
          ∧ (Call.setLimits v n l m).bytes = [v, n, l, m]
          ∧ (Call.configure w h bg v).bytes = twoBytes w.toNat ++ twoBytes h.toNat ++ threeBytes bg.toNat ++ [v]

/-- R189 to R191, R194: a header whose kind the table does not list or whose length is not the kind's, and a command byte other than
01h and 02h, raise FRAMING naming the port and leave STATUS with FRAMING, or IGNORING. A read fixes the head of the queue or, on an
empty queue, sends EMPTY and ignores; when its last byte has gone the response leaves the head, or nothing leaves where a
SOFT_RESET had removed it, and the port ignores, as it does after a status byte. Nothing else changes. R200: what a port drives on
SDO in each transaction state, with the bytes of a response being sent written out in Safety: header, body of at most 64 bytes, and
the records. The layouts rest on logs 10, 16, 18 and 23, and the bytes of fields that a report does not have are free (log 11). -/
def Obligations.FramingAndReads : Prop :=
  (∀ (p : Port) (kind seq length byte : Byte) (s : State), s.resetLow = false →
    let left (t : Transaction) : State :=
      { s with
        ports := s.ports.set p { s.ports.get p with transaction := t }
        alerts :=
          { s.alerts with
            pending := { s.alerts.pending with framing := true }
            ports := s.alerts.ports.set p true } }
    ((∃ held, (s.ports.get p).transaction = .header held ∧ held <+: [kind, seq, length]) →
        (∀ k : Kind, k.code = kind → k.bodyLength ≠ length.toNat) →
        exec (.headerFramingCheck p kind seq length) s = .next (left (.status .framing)))
      ∧ ((s.ports.get p).transaction = .command → byte ≠ 0x01#8 → byte ≠ 0x02#8 →
          exec (.badCommandByte p byte) s = .next (left .ignoring)))
    ∧ (∀ (p : Port) (r : Response) (l : List Response) (queued : Bool) (w : WriteStatus) (s : State),
    s.resetLow = false →
    let old := s.ports.get p
    let left (q : PortState) : State := { s with ports := s.ports.set p q }
    (old.transaction = .command → old.responses = [] →
        exec (.readCommand p) s = .next (left { old with transaction := .ignoring }))
      ∧ (old.transaction = .command → old.responses = r :: l →
          exec (.readCommand p) s = .next (left { old with transaction := .sending r true }))
      ∧ (old.transaction = .sending r queued →
          exec (.responseSent p) s =
            .next (left { old with responses := if queued then old.responses.tail else old.responses, transaction := .ignoring }))
      ∧ (old.transaction = .status w →
          exec (.statusByteSent p) s = .next (left { old with transaction := .ignoring })))
    ∧ ∀ (h : List Byte) (k : Kind) (q : Byte) (r : Response) (queued : Bool),
        Transaction.idle.drives = .highImpedance
          ∧ (∀ t ∈ [Transaction.command, .header h, .body k q h], t.drives = .always 0x00#8)
          ∧ (∀ w ∈ [(WriteStatus.accepted, 0x00#8), (.full, 0x01#8), (.framing, 0x02#8)],
              (Transaction.status w.1).drives = .message [w.2])
          ∧ Transaction.ignoring.drives = .always 0xFF#8
          ∧ (laidOut r.reply.body.fields).length ≤ 64
          ∧ ∃ records : List (List Byte),
              records.length = r.reply.records.length ∧ (∀ z ∈ r.reply.records.zip records, z.1.LaidOut z.2)
                ∧ (Transaction.sending r queued).drives = .message (r.asSent records)

/-- R192: a rise of select in any state returns the port to IDLE and leaves its buffer, its queue, every alert and every other
block as they were. -/
def Obligations.SelectRiseEndsTheTransaction : Prop :=
  ∀ (p : Port) (s : State),
    exec (.selectRise p) s =
      .next { s with ports := s.ports.set p { s.ports.get p with transaction := .idle } }

/-! ### Rules of the whole part -/

/-- R152: the sync expectation changes only at the sync lines, at START and at the resets, as the rule says. -/
def Obligations.SyncExpectationFollowsItsRule : Prop :=
  ∀ (c : Instr) (s t : State), exec c s = .next t →
    t.scan.expect =
      if c = .vblank ∧ s.resetLow = false ∧ s.scan.state ≠ .stopped then .fstart
      else if c = .fstart ∧ s.resetLow = false ∧ s.scan.state ≠ .stopped then .vblank
      else if c = .resetN .low ∨ (∃ q, c = .softReset .sup q ∧ s.choice = some (.sup, ⟨q, .softReset⟩))
          ∨ (∃ q, c = .start .sup q ∧ s.choice = some (.sup, ⟨q, .start⟩) ∧ s.scan.state = .stopped
              ∧ s.scan.width ≠ 0 ∧ s.scan.height ≠ 0) then .vblank
      else s.scan.expect

/-- R124, R134: the front plan changes only at a swap of a READY plan, at CLEAR_TABLE in HOLD, at STOP and at the resets. -/
def Obligations.FrontPlanChangesOnlyAsStated : Prop :=
  ∀ (c : Instr) (s t : State), exec c s = .next t → t.front ≠ s.front →
    (c = .fstart ∧ ∃ p, s.resolver = .ready p ∧ t.front = some p)
      ∨ (∃ q, c = .clearTable .sup q ∧ s.scan.state = .hold
          ∧ t.front = some (backgroundPlan s.scan.frame s.scan.width s.scan.height s.scan.background))
      ∨ ((∃ q, c = .stop .sup q) ∧ t.front = none)
      ∨ ((∃ q, c = .softReset .sup q) ∧ t.front = none) ∨ (c = .resetN .low ∧ t.front = none)

/-- R25, R27, R49, R198: no request of a client changes another session's record or Tag Map, another owner's region or pool entry,
Scan Control, the Resolver, the front plan or the alert mask. -/
def Obligations.ClientRequestsTouchOnlyTheirOwn : Prop :=
  ∀ (c : Instr) (n : Client) (r : Request) (s t : State),
    s.TableAgrees → c.request = some (.client n, r) → exec c s = .next t →
    (∀ x : Session, x ≠ .client n → t.sessions.get x = s.sessions.get x ∧ t.tagMaps.get x = s.tagMaps.get x)
      ∧ (∀ k : Slot, ∀ g ∈ s.table[k], g.owner ≠ .client n →
          t.table[k] = some g ∧ t.entryFor k = s.entryFor k ∧ t.shown[k] = s.shown[k])
      ∧ t.scan = s.scan ∧ t.resolver = s.resolver ∧ t.front = s.front ∧ t.alerts.mask = s.alerts.mask

/-! ### Invariants -/

/-- The state right after reset meets every invariant stated below. -/
def Obligations.ResetMeetsTheInvariants : Prop :=
  State.reset.PortsBounded ∧ State.reset.SessionsLegal ∧ State.reset.ScanLegal ∧ State.reset.TableAgrees
    ∧ State.reset.Consistent

/-- R188, R190, R194, R196: every step keeps each port within 4 requests and 4 responses, a read in progress at the head, and a
message being received short of its last byte. -/
def Obligations.StepKeepsPortsBounded : Prop :=
  ∀ s t : State, s.PortsBounded → step s = .next t → t.PortsBounded

/-- R26, R29 to R31, R34: every step keeps the session records legal and the quotas within 56. -/
def Obligations.StepKeepsSessionsLegal : Prop :=
  ∀ s t : State, s.SessionsLegal → step s = .next t → t.SessionsLegal

/-- R107, R124, R131, R149, R156: every step keeps the scan state, the plans, the Resolver and the panel in agreement. -/
def Obligations.StepKeepsScanLegal : Prop :=
  ∀ s t : State, s.ScanLegal → step s = .next t → t.ScanLegal

/-- R9, R19 to R21, R26, R42, R123: every step keeps the Region Table, the Tag Maps, the pool, the sessions and the marks in
agreement. -/
def Obligations.StepKeepsTableAgrees : Prop :=
  ∀ s t : State, s.TableAgrees → step s = .next t → t.TableAgrees

/-- R2, R4 to R6, R16 to R18, R21, R108, R114, R122: every step keeps the whole invariant: fields by class and state, rectangles
within the panel, ranks unique, no two reservations meeting, and every plan tiled, maximal and within the limits. -/
def Obligations.StepKeepsThePartConsistent : Prop :=
  ∀ s t : State, s.Consistent → step s = .next t → t.Consistent
end

