-- ==== Sys2Proof/Laws/State.lean ====
section
/-! SUPPORT. One lemma per field for each named update of State, and the laws of the five-fold values. -/

namespace Sys2Proof.Machine

/-! ### Values held once per session -/

/-- Reading the session just set. -/
@[simp] theorem PerSession.get_set_self {α : Type} (p : PerSession α) (x : Session) (v : α) : (p.set x v).get x = v := by
  cases x <;> simp [PerSession.get, PerSession.set]

/-- Reading another session than the one set. -/
theorem PerSession.get_set_of_ne {α : Type} (p : PerSession α) {x y : Session} (v : α) (h : y ≠ x) :
    (p.set x v).get y = p.get y := by
  cases x with
  | sup => cases y with
    | sup => exact absurd rfl h
    | client m => rfl
  | client n => cases y with
    | sup => rfl
    | client m =>
      have hne : n ≠ m := fun e => h (by rw [e])
      simp [PerSession.get, PerSession.set, Fin.val_inj, hne]

/-- Setting twice leaves the second value. -/
@[simp] theorem PerSession.set_set {α : Type} (p : PerSession α) (x : Session) (v w : α) :
    (p.set x v).set x w = p.set x w := by
  cases x <;> simp [PerSession.set]

/-- Setting what is there changes nothing. -/
@[simp] theorem PerSession.set_get {α : Type} (p : PerSession α) (x : Session) : p.set x (p.get x) = p := by
  cases x <;> simp [PerSession.get, PerSession.set]

/-- Reading values made from their sessions. -/
@[simp] theorem PerSession.get_make {α : Type} (f : Session → α) (x : Session) : (PerSession.make f).get x = f x := by
  cases x <;> simp [PerSession.get, PerSession.make]

/-- Five-fold values are equal when each of the five is. -/
theorem PerSession.ext_get {α : Type} {p q : PerSession α} (h : ∀ x, p.get x = q.get x) : p = q := by
  obtain ⟨pc, ps⟩ := p
  obtain ⟨qc, qs⟩ := q
  have hs : ps = qs := h .sup
  have hc : pc = qc := by
    apply Vector.ext
    intro i hi
    exact h (.client ⟨i, hi⟩)
  rw [hs, hc]

/-! ### The fields of each update -/

section
variable (s : State)

@[simp] theorem State.putRegion_tagMaps (k : Slot) (r : Region) : (s.putRegion k r).tagMaps = s.tagMaps := rfl
@[simp] theorem State.putRegion_pool (k : Slot) (r : Region) : (s.putRegion k r).pool = s.pool := rfl
@[simp] theorem State.putRegion_sessions (k : Slot) (r : Region) : (s.putRegion k r).sessions = s.sessions := rfl
@[simp] theorem State.putRegion_scan (k : Slot) (r : Region) : (s.putRegion k r).scan = s.scan := rfl
@[simp] theorem State.putRegion_resolver (k : Slot) (r : Region) : (s.putRegion k r).resolver = s.resolver := rfl
@[simp] theorem State.putRegion_front (k : Slot) (r : Region) : (s.putRegion k r).front = s.front := rfl
@[simp] theorem State.putRegion_shown (k : Slot) (r : Region) : (s.putRegion k r).shown = s.shown := rfl
@[simp] theorem State.putRegion_link (k : Slot) (r : Region) : (s.putRegion k r).link = s.link := rfl
@[simp] theorem State.putRegion_alerts (k : Slot) (r : Region) : (s.putRegion k r).alerts = s.alerts := rfl
@[simp] theorem State.putRegion_ports (k : Slot) (r : Region) : (s.putRegion k r).ports = s.ports := rfl
@[simp] theorem State.putRegion_lastServed (k : Slot) (r : Region) : (s.putRegion k r).lastServed = s.lastServed := rfl
@[simp] theorem State.putRegion_commitsDue (k : Slot) (r : Region) : (s.putRegion k r).commitsDue = s.commitsDue := rfl
@[simp] theorem State.putRegion_resetLow (k : Slot) (r : Region) : (s.putRegion k r).resetLow = s.resetLow := rfl
@[simp] theorem State.putRegion_pending (k : Slot) (r : Region) : (s.putRegion k r).pending = s.pending := rfl

@[simp] theorem State.freeSlot_tagMaps (k : Slot) : (s.freeSlot k).tagMaps = s.tagMaps := rfl
@[simp] theorem State.freeSlot_pool (k : Slot) : (s.freeSlot k).pool = s.pool := rfl
@[simp] theorem State.freeSlot_sessions (k : Slot) : (s.freeSlot k).sessions = s.sessions := rfl
@[simp] theorem State.freeSlot_scan (k : Slot) : (s.freeSlot k).scan = s.scan := rfl
@[simp] theorem State.freeSlot_resolver (k : Slot) : (s.freeSlot k).resolver = s.resolver := rfl
@[simp] theorem State.freeSlot_front (k : Slot) : (s.freeSlot k).front = s.front := rfl
@[simp] theorem State.freeSlot_link (k : Slot) : (s.freeSlot k).link = s.link := rfl
@[simp] theorem State.freeSlot_alerts (k : Slot) : (s.freeSlot k).alerts = s.alerts := rfl
@[simp] theorem State.freeSlot_ports (k : Slot) : (s.freeSlot k).ports = s.ports := rfl
@[simp] theorem State.freeSlot_lastServed (k : Slot) : (s.freeSlot k).lastServed = s.lastServed := rfl
@[simp] theorem State.freeSlot_commitsDue (k : Slot) : (s.freeSlot k).commitsDue = s.commitsDue := rfl
@[simp] theorem State.freeSlot_resetLow (k : Slot) : (s.freeSlot k).resetLow = s.resetLow := rfl
@[simp] theorem State.freeSlot_pending (k : Slot) : (s.freeSlot k).pending = s.pending := rfl

@[simp] theorem State.mapTags_table (x : Session) (f : List TagEntry → List TagEntry) : (s.mapTags x f).table = s.table := rfl
@[simp] theorem State.mapTags_pool (x : Session) (f : List TagEntry → List TagEntry) : (s.mapTags x f).pool = s.pool := rfl
@[simp] theorem State.mapTags_sessions (x : Session) (f : List TagEntry → List TagEntry) : (s.mapTags x f).sessions = s.sessions := rfl
@[simp] theorem State.mapTags_scan (x : Session) (f : List TagEntry → List TagEntry) : (s.mapTags x f).scan = s.scan := rfl
@[simp] theorem State.mapTags_resolver (x : Session) (f : List TagEntry → List TagEntry) : (s.mapTags x f).resolver = s.resolver := rfl
@[simp] theorem State.mapTags_front (x : Session) (f : List TagEntry → List TagEntry) : (s.mapTags x f).front = s.front := rfl
@[simp] theorem State.mapTags_shown (x : Session) (f : List TagEntry → List TagEntry) : (s.mapTags x f).shown = s.shown := rfl
@[simp] theorem State.mapTags_link (x : Session) (f : List TagEntry → List TagEntry) : (s.mapTags x f).link = s.link := rfl
@[simp] theorem State.mapTags_alerts (x : Session) (f : List TagEntry → List TagEntry) : (s.mapTags x f).alerts = s.alerts := rfl
@[simp] theorem State.mapTags_ports (x : Session) (f : List TagEntry → List TagEntry) : (s.mapTags x f).ports = s.ports := rfl
@[simp] theorem State.mapTags_lastServed (x : Session) (f : List TagEntry → List TagEntry) : (s.mapTags x f).lastServed = s.lastServed := rfl
@[simp] theorem State.mapTags_commitsDue (x : Session) (f : List TagEntry → List TagEntry) : (s.mapTags x f).commitsDue = s.commitsDue := rfl
@[simp] theorem State.mapTags_resetLow (x : Session) (f : List TagEntry → List TagEntry) : (s.mapTags x f).resetLow = s.resetLow := rfl
@[simp] theorem State.mapTags_pending (x : Session) (f : List TagEntry → List TagEntry) : (s.mapTags x f).pending = s.pending := rfl

@[simp] theorem State.freeRegion_pool (k : Slot) (x : Session) : (s.freeRegion k x).pool = s.pool := rfl
@[simp] theorem State.freeRegion_sessions (k : Slot) (x : Session) : (s.freeRegion k x).sessions = s.sessions := rfl
@[simp] theorem State.freeRegion_scan (k : Slot) (x : Session) : (s.freeRegion k x).scan = s.scan := rfl
@[simp] theorem State.freeRegion_resolver (k : Slot) (x : Session) : (s.freeRegion k x).resolver = s.resolver := rfl
@[simp] theorem State.freeRegion_front (k : Slot) (x : Session) : (s.freeRegion k x).front = s.front := rfl
@[simp] theorem State.freeRegion_link (k : Slot) (x : Session) : (s.freeRegion k x).link = s.link := rfl
@[simp] theorem State.freeRegion_alerts (k : Slot) (x : Session) : (s.freeRegion k x).alerts = s.alerts := rfl
@[simp] theorem State.freeRegion_ports (k : Slot) (x : Session) : (s.freeRegion k x).ports = s.ports := rfl
@[simp] theorem State.freeRegion_lastServed (k : Slot) (x : Session) : (s.freeRegion k x).lastServed = s.lastServed := rfl
@[simp] theorem State.freeRegion_commitsDue (k : Slot) (x : Session) : (s.freeRegion k x).commitsDue = s.commitsDue := rfl
@[simp] theorem State.freeRegion_resetLow (k : Slot) (x : Session) : (s.freeRegion k x).resetLow = s.resetLow := rfl
@[simp] theorem State.freeRegion_pending (k : Slot) (x : Session) : (s.freeRegion k x).pending = s.pending := rfl

@[simp] theorem State.stage_table (e : PoolEntry) : (s.stage e).table = s.table := rfl
@[simp] theorem State.stage_tagMaps (e : PoolEntry) : (s.stage e).tagMaps = s.tagMaps := rfl
@[simp] theorem State.stage_sessions (e : PoolEntry) : (s.stage e).sessions = s.sessions := rfl
@[simp] theorem State.stage_scan (e : PoolEntry) : (s.stage e).scan = s.scan := rfl
@[simp] theorem State.stage_resolver (e : PoolEntry) : (s.stage e).resolver = s.resolver := rfl
@[simp] theorem State.stage_front (e : PoolEntry) : (s.stage e).front = s.front := rfl
@[simp] theorem State.stage_shown (e : PoolEntry) : (s.stage e).shown = s.shown := rfl
@[simp] theorem State.stage_link (e : PoolEntry) : (s.stage e).link = s.link := rfl
@[simp] theorem State.stage_alerts (e : PoolEntry) : (s.stage e).alerts = s.alerts := rfl
@[simp] theorem State.stage_ports (e : PoolEntry) : (s.stage e).ports = s.ports := rfl
@[simp] theorem State.stage_lastServed (e : PoolEntry) : (s.stage e).lastServed = s.lastServed := rfl
@[simp] theorem State.stage_commitsDue (e : PoolEntry) : (s.stage e).commitsDue = s.commitsDue := rfl
@[simp] theorem State.stage_resetLow (e : PoolEntry) : (s.stage e).resetLow = s.resetLow := rfl
@[simp] theorem State.stage_pending (e : PoolEntry) : (s.stage e).pending = s.pending := rfl

@[simp] theorem State.restage_table (k : Slot) (f : PoolEntry → PoolEntry) : (s.restage k f).table = s.table := rfl
@[simp] theorem State.restage_tagMaps (k : Slot) (f : PoolEntry → PoolEntry) : (s.restage k f).tagMaps = s.tagMaps := rfl
@[simp] theorem State.restage_sessions (k : Slot) (f : PoolEntry → PoolEntry) : (s.restage k f).sessions = s.sessions := rfl
@[simp] theorem State.restage_scan (k : Slot) (f : PoolEntry → PoolEntry) : (s.restage k f).scan = s.scan := rfl
@[simp] theorem State.restage_resolver (k : Slot) (f : PoolEntry → PoolEntry) : (s.restage k f).resolver = s.resolver := rfl
@[simp] theorem State.restage_front (k : Slot) (f : PoolEntry → PoolEntry) : (s.restage k f).front = s.front := rfl
@[simp] theorem State.restage_shown (k : Slot) (f : PoolEntry → PoolEntry) : (s.restage k f).shown = s.shown := rfl
@[simp] theorem State.restage_link (k : Slot) (f : PoolEntry → PoolEntry) : (s.restage k f).link = s.link := rfl
@[simp] theorem State.restage_alerts (k : Slot) (f : PoolEntry → PoolEntry) : (s.restage k f).alerts = s.alerts := rfl
@[simp] theorem State.restage_ports (k : Slot) (f : PoolEntry → PoolEntry) : (s.restage k f).ports = s.ports := rfl
@[simp] theorem State.restage_lastServed (k : Slot) (f : PoolEntry → PoolEntry) : (s.restage k f).lastServed = s.lastServed := rfl
@[simp] theorem State.restage_commitsDue (k : Slot) (f : PoolEntry → PoolEntry) : (s.restage k f).commitsDue = s.commitsDue := rfl
@[simp] theorem State.restage_resetLow (k : Slot) (f : PoolEntry → PoolEntry) : (s.restage k f).resetLow = s.resetLow := rfl
@[simp] theorem State.restage_pending (k : Slot) (f : PoolEntry → PoolEntry) : (s.restage k f).pending = s.pending := rfl

@[simp] theorem State.unstage_table (k : Slot) : (s.unstage k).table = s.table := rfl
@[simp] theorem State.unstage_tagMaps (k : Slot) : (s.unstage k).tagMaps = s.tagMaps := rfl
@[simp] theorem State.unstage_sessions (k : Slot) : (s.unstage k).sessions = s.sessions := rfl
@[simp] theorem State.unstage_scan (k : Slot) : (s.unstage k).scan = s.scan := rfl
@[simp] theorem State.unstage_resolver (k : Slot) : (s.unstage k).resolver = s.resolver := rfl
@[simp] theorem State.unstage_front (k : Slot) : (s.unstage k).front = s.front := rfl
@[simp] theorem State.unstage_shown (k : Slot) : (s.unstage k).shown = s.shown := rfl
@[simp] theorem State.unstage_link (k : Slot) : (s.unstage k).link = s.link := rfl
@[simp] theorem State.unstage_alerts (k : Slot) : (s.unstage k).alerts = s.alerts := rfl
@[simp] theorem State.unstage_ports (k : Slot) : (s.unstage k).ports = s.ports := rfl
@[simp] theorem State.unstage_lastServed (k : Slot) : (s.unstage k).lastServed = s.lastServed := rfl
@[simp] theorem State.unstage_commitsDue (k : Slot) : (s.unstage k).commitsDue = s.commitsDue := rfl
@[simp] theorem State.unstage_resetLow (k : Slot) : (s.unstage k).resetLow = s.resetLow := rfl
@[simp] theorem State.unstage_pending (k : Slot) : (s.unstage k).pending = s.pending := rfl

@[simp] theorem State.raise_table (a : Alert) : (s.raise a).table = s.table := rfl
@[simp] theorem State.raise_tagMaps (a : Alert) : (s.raise a).tagMaps = s.tagMaps := rfl
@[simp] theorem State.raise_pool (a : Alert) : (s.raise a).pool = s.pool := rfl
@[simp] theorem State.raise_sessions (a : Alert) : (s.raise a).sessions = s.sessions := rfl
@[simp] theorem State.raise_scan (a : Alert) : (s.raise a).scan = s.scan := rfl
@[simp] theorem State.raise_resolver (a : Alert) : (s.raise a).resolver = s.resolver := rfl
@[simp] theorem State.raise_front (a : Alert) : (s.raise a).front = s.front := rfl
@[simp] theorem State.raise_shown (a : Alert) : (s.raise a).shown = s.shown := rfl
@[simp] theorem State.raise_link (a : Alert) : (s.raise a).link = s.link := rfl
@[simp] theorem State.raise_ports (a : Alert) : (s.raise a).ports = s.ports := rfl
@[simp] theorem State.raise_lastServed (a : Alert) : (s.raise a).lastServed = s.lastServed := rfl
@[simp] theorem State.raise_commitsDue (a : Alert) : (s.raise a).commitsDue = s.commitsDue := rfl
@[simp] theorem State.raise_resetLow (a : Alert) : (s.raise a).resetLow = s.resetLow := rfl
@[simp] theorem State.raise_pending (a : Alert) : (s.raise a).pending = s.pending := rfl

@[simp] theorem State.raiseIf_table (b : Bool) (a : Alert) : (s.raiseIf b a).table = s.table := by cases b <;> rfl
@[simp] theorem State.raiseIf_tagMaps (b : Bool) (a : Alert) : (s.raiseIf b a).tagMaps = s.tagMaps := by cases b <;> rfl
@[simp] theorem State.raiseIf_pool (b : Bool) (a : Alert) : (s.raiseIf b a).pool = s.pool := by cases b <;> rfl
@[simp] theorem State.raiseIf_sessions (b : Bool) (a : Alert) : (s.raiseIf b a).sessions = s.sessions := by cases b <;> rfl
@[simp] theorem State.raiseIf_scan (b : Bool) (a : Alert) : (s.raiseIf b a).scan = s.scan := by cases b <;> rfl
@[simp] theorem State.raiseIf_resolver (b : Bool) (a : Alert) : (s.raiseIf b a).resolver = s.resolver := by cases b <;> rfl
@[simp] theorem State.raiseIf_front (b : Bool) (a : Alert) : (s.raiseIf b a).front = s.front := by cases b <;> rfl
@[simp] theorem State.raiseIf_shown (b : Bool) (a : Alert) : (s.raiseIf b a).shown = s.shown := by cases b <;> rfl
@[simp] theorem State.raiseIf_link (b : Bool) (a : Alert) : (s.raiseIf b a).link = s.link := by cases b <;> rfl
@[simp] theorem State.raiseIf_ports (b : Bool) (a : Alert) : (s.raiseIf b a).ports = s.ports := by cases b <;> rfl
@[simp] theorem State.raiseIf_lastServed (b : Bool) (a : Alert) : (s.raiseIf b a).lastServed = s.lastServed := by cases b <;> rfl
@[simp] theorem State.raiseIf_commitsDue (b : Bool) (a : Alert) : (s.raiseIf b a).commitsDue = s.commitsDue := by cases b <;> rfl
@[simp] theorem State.raiseIf_resetLow (b : Bool) (a : Alert) : (s.raiseIf b a).resetLow = s.resetLow := by cases b <;> rfl
@[simp] theorem State.raiseIf_pending (b : Bool) (a : Alert) : (s.raiseIf b a).pending = s.pending := by cases b <;> rfl

@[simp] theorem State.mapSession_table (x : Session) (f : SessionRecord → SessionRecord) : (s.mapSession x f).table = s.table := rfl
@[simp] theorem State.mapSession_tagMaps (x : Session) (f : SessionRecord → SessionRecord) : (s.mapSession x f).tagMaps = s.tagMaps := rfl
@[simp] theorem State.mapSession_pool (x : Session) (f : SessionRecord → SessionRecord) : (s.mapSession x f).pool = s.pool := rfl
@[simp] theorem State.mapSession_scan (x : Session) (f : SessionRecord → SessionRecord) : (s.mapSession x f).scan = s.scan := rfl
@[simp] theorem State.mapSession_resolver (x : Session) (f : SessionRecord → SessionRecord) : (s.mapSession x f).resolver = s.resolver := rfl
@[simp] theorem State.mapSession_front (x : Session) (f : SessionRecord → SessionRecord) : (s.mapSession x f).front = s.front := rfl
@[simp] theorem State.mapSession_shown (x : Session) (f : SessionRecord → SessionRecord) : (s.mapSession x f).shown = s.shown := rfl
@[simp] theorem State.mapSession_link (x : Session) (f : SessionRecord → SessionRecord) : (s.mapSession x f).link = s.link := rfl
@[simp] theorem State.mapSession_alerts (x : Session) (f : SessionRecord → SessionRecord) : (s.mapSession x f).alerts = s.alerts := rfl
@[simp] theorem State.mapSession_ports (x : Session) (f : SessionRecord → SessionRecord) : (s.mapSession x f).ports = s.ports := rfl
@[simp] theorem State.mapSession_lastServed (x : Session) (f : SessionRecord → SessionRecord) : (s.mapSession x f).lastServed = s.lastServed := rfl
@[simp] theorem State.mapSession_commitsDue (x : Session) (f : SessionRecord → SessionRecord) : (s.mapSession x f).commitsDue = s.commitsDue := rfl
@[simp] theorem State.mapSession_resetLow (x : Session) (f : SessionRecord → SessionRecord) : (s.mapSession x f).resetLow = s.resetLow := rfl
@[simp] theorem State.mapSession_pending (x : Session) (f : SessionRecord → SessionRecord) : (s.mapSession x f).pending = s.pending := rfl

@[simp] theorem State.mapPort_table (p : Port) (f : PortState → PortState) : (s.mapPort p f).table = s.table := rfl
@[simp] theorem State.mapPort_tagMaps (p : Port) (f : PortState → PortState) : (s.mapPort p f).tagMaps = s.tagMaps := rfl
@[simp] theorem State.mapPort_pool (p : Port) (f : PortState → PortState) : (s.mapPort p f).pool = s.pool := rfl
@[simp] theorem State.mapPort_sessions (p : Port) (f : PortState → PortState) : (s.mapPort p f).sessions = s.sessions := rfl
@[simp] theorem State.mapPort_scan (p : Port) (f : PortState → PortState) : (s.mapPort p f).scan = s.scan := rfl
@[simp] theorem State.mapPort_resolver (p : Port) (f : PortState → PortState) : (s.mapPort p f).resolver = s.resolver := rfl
@[simp] theorem State.mapPort_front (p : Port) (f : PortState → PortState) : (s.mapPort p f).front = s.front := rfl
@[simp] theorem State.mapPort_shown (p : Port) (f : PortState → PortState) : (s.mapPort p f).shown = s.shown := rfl
@[simp] theorem State.mapPort_link (p : Port) (f : PortState → PortState) : (s.mapPort p f).link = s.link := rfl
@[simp] theorem State.mapPort_alerts (p : Port) (f : PortState → PortState) : (s.mapPort p f).alerts = s.alerts := rfl
@[simp] theorem State.mapPort_lastServed (p : Port) (f : PortState → PortState) : (s.mapPort p f).lastServed = s.lastServed := rfl
@[simp] theorem State.mapPort_commitsDue (p : Port) (f : PortState → PortState) : (s.mapPort p f).commitsDue = s.commitsDue := rfl
@[simp] theorem State.mapPort_resetLow (p : Port) (f : PortState → PortState) : (s.mapPort p f).resetLow = s.resetLow := rfl
@[simp] theorem State.mapPort_pending (p : Port) (f : PortState → PortState) : (s.mapPort p f).pending = s.pending := rfl

@[simp] theorem State.setTransaction_table (p : Port) (t : Transaction) : (s.setTransaction p t).table = s.table := rfl
@[simp] theorem State.setTransaction_tagMaps (p : Port) (t : Transaction) : (s.setTransaction p t).tagMaps = s.tagMaps := rfl
@[simp] theorem State.setTransaction_pool (p : Port) (t : Transaction) : (s.setTransaction p t).pool = s.pool := rfl
@[simp] theorem State.setTransaction_sessions (p : Port) (t : Transaction) : (s.setTransaction p t).sessions = s.sessions := rfl
@[simp] theorem State.setTransaction_scan (p : Port) (t : Transaction) : (s.setTransaction p t).scan = s.scan := rfl
@[simp] theorem State.setTransaction_resolver (p : Port) (t : Transaction) : (s.setTransaction p t).resolver = s.resolver := rfl
@[simp] theorem State.setTransaction_front (p : Port) (t : Transaction) : (s.setTransaction p t).front = s.front := rfl
@[simp] theorem State.setTransaction_shown (p : Port) (t : Transaction) : (s.setTransaction p t).shown = s.shown := rfl
@[simp] theorem State.setTransaction_link (p : Port) (t : Transaction) : (s.setTransaction p t).link = s.link := rfl
@[simp] theorem State.setTransaction_alerts (p : Port) (t : Transaction) : (s.setTransaction p t).alerts = s.alerts := rfl
@[simp] theorem State.setTransaction_lastServed (p : Port) (t : Transaction) : (s.setTransaction p t).lastServed = s.lastServed := rfl
@[simp] theorem State.setTransaction_commitsDue (p : Port) (t : Transaction) : (s.setTransaction p t).commitsDue = s.commitsDue := rfl
@[simp] theorem State.setTransaction_resetLow (p : Port) (t : Transaction) : (s.setTransaction p t).resetLow = s.resetLow := rfl
@[simp] theorem State.setTransaction_pending (p : Port) (t : Transaction) : (s.setTransaction p t).pending = s.pending := rfl

@[simp] theorem State.answer_table (p : Port) (r : Response) : (s.answer p r).table = s.table := rfl
@[simp] theorem State.answer_tagMaps (p : Port) (r : Response) : (s.answer p r).tagMaps = s.tagMaps := rfl
@[simp] theorem State.answer_pool (p : Port) (r : Response) : (s.answer p r).pool = s.pool := rfl
@[simp] theorem State.answer_sessions (p : Port) (r : Response) : (s.answer p r).sessions = s.sessions := rfl
@[simp] theorem State.answer_scan (p : Port) (r : Response) : (s.answer p r).scan = s.scan := rfl
@[simp] theorem State.answer_resolver (p : Port) (r : Response) : (s.answer p r).resolver = s.resolver := rfl
@[simp] theorem State.answer_front (p : Port) (r : Response) : (s.answer p r).front = s.front := rfl
@[simp] theorem State.answer_shown (p : Port) (r : Response) : (s.answer p r).shown = s.shown := rfl
@[simp] theorem State.answer_link (p : Port) (r : Response) : (s.answer p r).link = s.link := rfl
@[simp] theorem State.answer_alerts (p : Port) (r : Response) : (s.answer p r).alerts = s.alerts := rfl
@[simp] theorem State.answer_lastServed (p : Port) (r : Response) : (s.answer p r).lastServed = s.lastServed := rfl
@[simp] theorem State.answer_commitsDue (p : Port) (r : Response) : (s.answer p r).commitsDue = s.commitsDue := rfl
@[simp] theorem State.answer_resetLow (p : Port) (r : Response) : (s.answer p r).resetLow = s.resetLow := rfl
@[simp] theorem State.answer_pending (p : Port) (r : Response) : (s.answer p r).pending = s.pending := rfl

@[simp] theorem State.dequeue_table (p : Port) : (s.dequeue p).table = s.table := by cases p <;> rfl
@[simp] theorem State.dequeue_tagMaps (p : Port) : (s.dequeue p).tagMaps = s.tagMaps := by cases p <;> rfl
@[simp] theorem State.dequeue_pool (p : Port) : (s.dequeue p).pool = s.pool := by cases p <;> rfl
@[simp] theorem State.dequeue_sessions (p : Port) : (s.dequeue p).sessions = s.sessions := by cases p <;> rfl
@[simp] theorem State.dequeue_scan (p : Port) : (s.dequeue p).scan = s.scan := by cases p <;> rfl
@[simp] theorem State.dequeue_resolver (p : Port) : (s.dequeue p).resolver = s.resolver := by cases p <;> rfl
@[simp] theorem State.dequeue_front (p : Port) : (s.dequeue p).front = s.front := by cases p <;> rfl
@[simp] theorem State.dequeue_shown (p : Port) : (s.dequeue p).shown = s.shown := by cases p <;> rfl
@[simp] theorem State.dequeue_link (p : Port) : (s.dequeue p).link = s.link := by cases p <;> rfl
@[simp] theorem State.dequeue_alerts (p : Port) : (s.dequeue p).alerts = s.alerts := by cases p <;> rfl
@[simp] theorem State.dequeue_commitsDue (p : Port) : (s.dequeue p).commitsDue = s.commitsDue := by cases p <;> rfl
@[simp] theorem State.dequeue_resetLow (p : Port) : (s.dequeue p).resetLow = s.resetLow := by cases p <;> rfl
@[simp] theorem State.dequeue_pending (p : Port) : (s.dequeue p).pending = s.pending := by cases p <;> rfl

@[simp] theorem State.answered_table (p : Port) (r : Request) (y : Reply) : (s.answered p r y).table = s.table := rfl
@[simp] theorem State.answered_tagMaps (p : Port) (r : Request) (y : Reply) : (s.answered p r y).tagMaps = s.tagMaps := rfl
@[simp] theorem State.answered_pool (p : Port) (r : Request) (y : Reply) : (s.answered p r y).pool = s.pool := rfl
@[simp] theorem State.answered_sessions (p : Port) (r : Request) (y : Reply) : (s.answered p r y).sessions = s.sessions := rfl
@[simp] theorem State.answered_scan (p : Port) (r : Request) (y : Reply) : (s.answered p r y).scan = s.scan := rfl
@[simp] theorem State.answered_resolver (p : Port) (r : Request) (y : Reply) : (s.answered p r y).resolver = s.resolver := rfl
@[simp] theorem State.answered_front (p : Port) (r : Request) (y : Reply) : (s.answered p r y).front = s.front := rfl
@[simp] theorem State.answered_shown (p : Port) (r : Request) (y : Reply) : (s.answered p r y).shown = s.shown := rfl
@[simp] theorem State.answered_link (p : Port) (r : Request) (y : Reply) : (s.answered p r y).link = s.link := rfl
@[simp] theorem State.answered_alerts (p : Port) (r : Request) (y : Reply) : (s.answered p r y).alerts = s.alerts := rfl
@[simp] theorem State.answered_commitsDue (p : Port) (r : Request) (y : Reply) : (s.answered p r y).commitsDue = s.commitsDue := rfl
@[simp] theorem State.answered_resetLow (p : Port) (r : Request) (y : Reply) : (s.answered p r y).resetLow = s.resetLow := rfl
@[simp] theorem State.answered_pending (p : Port) (r : Request) (y : Reply) : (s.answered p r y).pending = s.pending := rfl

@[simp] theorem State.startResolve_table (f : Word16) : (s.startResolve f).table = s.table := rfl
@[simp] theorem State.startResolve_tagMaps (f : Word16) : (s.startResolve f).tagMaps = s.tagMaps := rfl
@[simp] theorem State.startResolve_pool (f : Word16) : (s.startResolve f).pool = s.pool := rfl
@[simp] theorem State.startResolve_sessions (f : Word16) : (s.startResolve f).sessions = s.sessions := rfl
@[simp] theorem State.startResolve_scan (f : Word16) : (s.startResolve f).scan = s.scan := rfl
@[simp] theorem State.startResolve_front (f : Word16) : (s.startResolve f).front = s.front := rfl
@[simp] theorem State.startResolve_shown (f : Word16) : (s.startResolve f).shown = s.shown := rfl
@[simp] theorem State.startResolve_link (f : Word16) : (s.startResolve f).link = s.link := rfl
@[simp] theorem State.startResolve_alerts (f : Word16) : (s.startResolve f).alerts = s.alerts := rfl
@[simp] theorem State.startResolve_ports (f : Word16) : (s.startResolve f).ports = s.ports := rfl
@[simp] theorem State.startResolve_lastServed (f : Word16) : (s.startResolve f).lastServed = s.lastServed := rfl
@[simp] theorem State.startResolve_commitsDue (f : Word16) : (s.startResolve f).commitsDue = s.commitsDue := rfl
@[simp] theorem State.startResolve_resetLow (f : Word16) : (s.startResolve f).resetLow = s.resetLow := rfl
@[simp] theorem State.startResolve_pending (f : Word16) : (s.startResolve f).pending = s.pending := rfl

@[simp] theorem State.present_tagMaps : (s.present).tagMaps = s.tagMaps := rfl
@[simp] theorem State.present_pool : (s.present).pool = s.pool := rfl
@[simp] theorem State.present_sessions : (s.present).sessions = s.sessions := rfl
@[simp] theorem State.present_scan : (s.present).scan = s.scan := rfl
@[simp] theorem State.present_resolver : (s.present).resolver = s.resolver := rfl
@[simp] theorem State.present_front : (s.present).front = s.front := rfl
@[simp] theorem State.present_shown : (s.present).shown = s.shown := rfl
@[simp] theorem State.present_link : (s.present).link = s.link := rfl
@[simp] theorem State.present_alerts : (s.present).alerts = s.alerts := rfl
@[simp] theorem State.present_ports : (s.present).ports = s.ports := rfl
@[simp] theorem State.present_lastServed : (s.present).lastServed = s.lastServed := rfl
@[simp] theorem State.present_commitsDue : (s.present).commitsDue = s.commitsDue := rfl
@[simp] theorem State.present_resetLow : (s.present).resetLow = s.resetLow := rfl
@[simp] theorem State.present_pending : (s.present).pending = s.pending := rfl

@[simp] theorem State.markCursors_table : (s.markCursors).table = s.table := rfl
@[simp] theorem State.markCursors_tagMaps : (s.markCursors).tagMaps = s.tagMaps := rfl
@[simp] theorem State.markCursors_pool : (s.markCursors).pool = s.pool := rfl
@[simp] theorem State.markCursors_scan : (s.markCursors).scan = s.scan := rfl
@[simp] theorem State.markCursors_resolver : (s.markCursors).resolver = s.resolver := rfl
@[simp] theorem State.markCursors_front : (s.markCursors).front = s.front := rfl
@[simp] theorem State.markCursors_shown : (s.markCursors).shown = s.shown := rfl
@[simp] theorem State.markCursors_link : (s.markCursors).link = s.link := rfl
@[simp] theorem State.markCursors_alerts : (s.markCursors).alerts = s.alerts := rfl
@[simp] theorem State.markCursors_ports : (s.markCursors).ports = s.ports := rfl
@[simp] theorem State.markCursors_lastServed : (s.markCursors).lastServed = s.lastServed := rfl
@[simp] theorem State.markCursors_commitsDue : (s.markCursors).commitsDue = s.commitsDue := rfl
@[simp] theorem State.markCursors_resetLow : (s.markCursors).resetLow = s.resetLow := rfl
@[simp] theorem State.markCursors_pending : (s.markCursors).pending = s.pending := rfl

@[simp] theorem State.countLeases_pool (l : List PoolEntry) : (s.countLeases l).pool = s.pool := by simp only [State.countLeases]
@[simp] theorem State.countLeases_sessions (l : List PoolEntry) : (s.countLeases l).sessions = s.sessions := by simp only [State.countLeases]
@[simp] theorem State.countLeases_scan (l : List PoolEntry) : (s.countLeases l).scan = s.scan := by simp only [State.countLeases]
@[simp] theorem State.countLeases_resolver (l : List PoolEntry) : (s.countLeases l).resolver = s.resolver := by simp only [State.countLeases]
@[simp] theorem State.countLeases_front (l : List PoolEntry) : (s.countLeases l).front = s.front := by simp only [State.countLeases]
@[simp] theorem State.countLeases_link (l : List PoolEntry) : (s.countLeases l).link = s.link := by simp only [State.countLeases]
@[simp] theorem State.countLeases_alerts (l : List PoolEntry) : (s.countLeases l).alerts = s.alerts := by simp only [State.countLeases]
@[simp] theorem State.countLeases_ports (l : List PoolEntry) : (s.countLeases l).ports = s.ports := by simp only [State.countLeases]
@[simp] theorem State.countLeases_lastServed (l : List PoolEntry) : (s.countLeases l).lastServed = s.lastServed := by simp only [State.countLeases]
@[simp] theorem State.countLeases_commitsDue (l : List PoolEntry) : (s.countLeases l).commitsDue = s.commitsDue := by simp only [State.countLeases]
@[simp] theorem State.countLeases_resetLow (l : List PoolEntry) : (s.countLeases l).resetLow = s.resetLow := by simp only [State.countLeases]
@[simp] theorem State.countLeases_pending (l : List PoolEntry) : (s.countLeases l).pending = s.pending := by simp only [State.countLeases]

@[simp] theorem State.drain_pool (x : Session) : (s.drain x).pool = s.pool := rfl
@[simp] theorem State.drain_scan (x : Session) : (s.drain x).scan = s.scan := rfl
@[simp] theorem State.drain_resolver (x : Session) : (s.drain x).resolver = s.resolver := rfl
@[simp] theorem State.drain_front (x : Session) : (s.drain x).front = s.front := rfl
@[simp] theorem State.drain_link (x : Session) : (s.drain x).link = s.link := rfl
@[simp] theorem State.drain_alerts (x : Session) : (s.drain x).alerts = s.alerts := rfl
@[simp] theorem State.drain_ports (x : Session) : (s.drain x).ports = s.ports := rfl
@[simp] theorem State.drain_lastServed (x : Session) : (s.drain x).lastServed = s.lastServed := rfl
@[simp] theorem State.drain_commitsDue (x : Session) : (s.drain x).commitsDue = s.commitsDue := rfl
@[simp] theorem State.drain_resetLow (x : Session) : (s.drain x).resetLow = s.resetLow := rfl
@[simp] theorem State.drain_pending (x : Session) : (s.drain x).pending = s.pending := rfl

end

end Sys2Proof.Machine
end

