-- ==== Sys2Proof/Laws/Commits.lean ====
section
/-! SUPPORT. What a commit leaves alone, said once, and how the commits that wait are taken before a swap. -/

namespace Sys2Proof.Machine

/-- What no part of a commit writes: the front plan, the link, the ports, the arbiter's pointer, the commits that wait, the level
of RESET_N and the queue of commands. -/
def State.outsideCommit (s : State) :
    Option Plan × Link × PerSession PortState × Client × List Word16 × Bool × List Instr :=
  (s.front, s.link, s.ports, s.lastServed, s.commitsDue, s.resetLow, s.pending)

/-- A fold of steps that each keep a view keeps the view. -/
theorem foldl_keeps {α β γ : Type} (f : β → α → β) (view : β → γ) (h : ∀ b a, view (f b a) = view b) (l : List α) (b : β) :
    view (l.foldl f b) = view b := by
  induction l generalizing b with
  | nil => rfl
  | cons a l ih => rw [List.foldl_cons, ih, h]

theorem applyEntry_outsideCommit (s : State) (e : PoolEntry) : (applyEntry s e).outsideCommit = s.outsideCommit := by
  unfold applyEntry
  split
  · rfl
  · split <;> rfl

theorem applyPending_outsideCommit (s : State) (n : Client) : (applyPending s n).outsideCommit = s.outsideCommit := by
  unfold applyPending
  split <;> rfl

theorem State.staged2_outsideCommit (s : State) : s.staged2.outsideCommit = s.outsideCommit :=
  (foldl_keeps _ State.outsideCommit applyPending_outsideCommit _ _).trans
    (foldl_keeps _ State.outsideCommit applyEntry_outsideCommit _ _)

theorem State.raiseLapsed_outsideCommit (before s : State) : (before.raiseLapsed s).outsideCommit = s.outsideCommit :=
  foldl_keeps _ State.outsideCommit (fun t _ => by unfold State.raiseIf; split <;> rfl) _ _

theorem State.countLeases_outsideCommit (s : State) (pool : List PoolEntry) :
    (s.countLeases pool).outsideCommit = s.outsideCommit := by
  simp only [State.countLeases, State.outsideCommit]

theorem State.present_outsideCommit (s : State) : s.present.outsideCommit = s.outsideCommit := rfl

theorem State.markCursors_outsideCommit (s : State) : s.markCursors.outsideCommit = s.outsideCommit := rfl

theorem State.startResolve_outsideCommit (s : State) (f : Word16) (c : ScanControl) :
    ({ s.startResolve f with scan := c } : State).outsideCommit = s.outsideCommit := by
  simp only [State.startResolve, State.outsideCommit]

theorem State.vblankCommit_outsideCommit (s : State) (f : Word16) :
    (s.vblankCommit f).outsideCommit = s.outsideCommit := by
  have h : s.commitParts.outsideCommit = s.outsideCommit := by
    simp only [State.commitParts, State.markCursors_outsideCommit, State.present_outsideCommit,
      State.raiseLapsed_outsideCommit, State.countLeases_outsideCommit, State.staged2_outsideCommit]
  unfold State.vblankCommit
  split
  · exact (State.startResolve_outsideCommit _ _ _).trans h
  · exact h

/-- The commit taken is the oldest that waits, and the others wait on. -/
@[simp] theorem State.takeCommit_commitsDue (s : State) : s.takeCommit.commitsDue = s.commitsDue.tail := by
  unfold State.takeCommit
  split
  · next h => rw [h]; rfl
  · next f rest h =>
    rw [h]
    exact congrArg (fun z => z.2.2.2.2.1) (State.vblankCommit_outsideCommit { s with commitsDue := rest } f)

/-- With no commit waiting the state is settled as it is. -/
theorem State.settled_of_none {s : State} (h : s.commitsDue = []) : s.settled = s := by
  simp [State.settled, h, State.takeCommits]

/-- Settling takes the oldest commit first. -/
theorem State.settled_of_some {s : State} (h : s.commitsDue ≠ []) : s.settled = s.takeCommit.settled := by
  cases hd : s.commitsDue with
  | nil => exact absurd hd h
  | cons f rest => simp [State.settled, hd, State.takeCommits]

end Sys2Proof.Machine
end

