-- ==== Sys2Proof/Laws/Layout.lean ====
section
/-! SUPPORT. How the part writes numbers, flags and named values agrees with the terms that the statements write them in: once for
each kind of field. -/

namespace Sys2Proof.Machine

/-- A 16-bit field is its number in two bytes. -/
theorem word16Bytes_eq (w : Word16) : word16Bytes w = twoBytes w.toNat := by
  simp only [twoBytes, word16Bytes, List.cons.injEq, and_true]
  constructor <;> (apply BitVec.eq_of_toNat_eq; simp [BitVec.extractLsb', Nat.shiftRight_eq_div_pow])

/-- A number in two bytes, whatever its size. -/
theorem wordBytes_eq (n : Nat) : wordBytes n = twoBytes n := by
  simp only [twoBytes, wordBytes, word16Bytes, List.cons.injEq, and_true]
  constructor <;> (apply BitVec.eq_of_toNat_eq; simp [BitVec.extractLsb', Nat.shiftRight_eq_div_pow]; try omega)

/-- A colour is its number in three bytes. -/
theorem colourBytes_eq (c : Colour) : colourBytes c = threeBytes c.toNat := by
  simp only [threeBytes, colourBytes, List.cons.injEq, and_true]
  refine ⟨?_, ?_, ?_⟩ <;> (apply BitVec.eq_of_toNat_eq; simp [BitVec.extractLsb', Nat.shiftRight_eq_div_pow])

/-- The sum of the bits counted on from a place is the number folded from them, raised to that place. -/
theorem sum_bits (l : List Bool) (k : Nat) :
    ((l.zipIdx k).map (fun q => if q.1 then 2 ^ q.2 else 0)).sum = 2 ^ k * l.foldr (fun b n => 2 * n + b.toNat) 0 := by
  induction l generalizing k with
  | nil => simp
  | cons a l ih =>
    simp [List.zipIdx_cons, ih]
    cases a <;> simp [Nat.pow_succ, Nat.mul_add, Nat.mul_assoc, Nat.add_comm]

/-- Flags are sent as the byte of their bits. -/
theorem bitsByte_eq (l : List Bool) : bitsByte l = BitVec.ofNat 8 (bitsOf l) := by
  rw [bitsByte, byteOf, bitsOf, sum_bits]
  simp

/-- A flag is sent as 1 or 0. -/
theorem flagByte_eq (b : Bool) : flagByte b = BitVec.ofNat 8 b.toNat := by cases b <;> rfl

/-- A session is sent as its number. -/
theorem sessionCode_eq (x : Session) : sessionCode x = BitVec.ofNat 8 (sessionNumber x) := by cases x <;> rfl

/-- The class follows the owner. -/
theorem classByte_eq (x : Session) : classByte x = BitVec.ofNat 8 (if x = .sup then 1 else 0) := by cases x <;> rfl

theorem SessionState.code_eq (x : SessionState) :
    x.code = BitVec.ofNat 8 (placeIn [.detached, .attached, .suspended, .draining] x) := by cases x <;> decide

theorem PendingChange.code_eq (x : PendingChange) :
    x.code = BitVec.ofNat 8 (placeIn [.noChange, .suspend, .resume, .drain] x) := by cases x <;> decide

theorem ScanState.code_eq (x : ScanState) :
    x.code = BitVec.ofNat 8 (placeIn [.stopped, .priming, .running, .hold] x) := by cases x <;> decide

theorem SyncLine.code_eq (x : SyncLine) : x.code = BitVec.ofNat 8 (placeIn [.vblank, .fstart] x) := by cases x <;> decide

theorem ResolverPhase.code_eq (x : ResolverPhase) :
    x.code = BitVec.ofNat 8 (placeIn [.idle, .resolving, .ready] x) := by cases x <;> decide

theorem PlanStatus.code_eq (x : PlanStatus) : x.code = BitVec.ofNat 8 (placeIn [.full, .reduced] x) := by cases x <;> decide

theorem SpanKind.code_eq (x : SpanKind) :
    x.code = BitVec.ofNat 8 (placeIn [.background, .source, .solid] x) := by cases x <;> decide

theorem RenewAction.code_eq (x : RenewAction) :
    x.code = BitVec.ofNat 8 (placeIn [.renewed, .noEffect, .reviveStaged] x) := by cases x <;> decide

theorem Disposition.code_eq (x : Disposition) : x.code = BitVec.ofNat 8 (placeIn [.freed, .staged] x) := by cases x <;> decide

theorem Fill.code_eq (x : Fill) : x.code = BitVec.ofNat 8 (placeIn [.source, .solid] x) := by cases x <;> decide

theorem RegionState.code_eq (x : RegionState) :
    x.code = BitVec.ofNat 8 (1 + placeIn [.stagedNew, .live, .lapsed, .retiring] x) := by cases x <;> decide

theorem EntryKind.code_eq (x : EntryKind) :
    x.code = BitVec.ofNat 8 (1 + placeIn [.new, .pin, .amend, .revive, .release, .unpin] x) := by cases x <;> decide

/-- Alert kinds are sent as one byte. -/
theorem AlertFlags.code_eq (a : AlertFlags) : a.code = BitVec.ofNat 8 a.number := bitsByte_eq _

/-- A notice set is sent as one byte. -/
theorem NoticeSet.code_eq (n : NoticeSet) : n.code = BitVec.ofNat 8 n.number := bitsByte_eq _

/-- A field of a region report has its size, whether it is present or its bytes are free. -/
theorem length_reportField (k : Slot) (offset size : Nat) (o : Option (List Byte)) (h : ∀ l ∈ o, l.length = size) :
    (reportField k offset size o).length = size := by
  cases o with
  | none => simp [reportField]
  | some l => simpa [reportField] using h

end Sys2Proof.Machine
end

