-- ==== Sys2Proof/Laws/Requests.lean ====
section
/-! SUPPORT. What taking a request does, said once: no request rule but SOFT_RESET's reads or writes the ports, so a request
that the arbiter chooses answers its rule's reply on the state as it stood (`exec_of_choice`). -/

namespace Sys2Proof.Machine

/-- The state with other ports and another last client port served. -/
def State.withPorts (s : State) (P : PerSession PortState) (l : Client) : State := { s with ports := P, lastServed := l }

/-- A request rule that neither reads nor writes the ports and the arbiter's pointer. -/
def PortFree (f : State → State × Reply) : Prop :=
  ∀ (s : State) (P : PerSession PortState) (l : Client), f (s.withPorts P l) = ((f s).1.withPorts P l, (f s).2)

theorem PortFree.ports {f : State → State × Reply} (h : PortFree f) (s : State) : (f s).1.ports = s.ports := by
  have := congrArg (fun z => z.1.ports) (h s s.ports s.lastServed)
  exact this

theorem PortFree.lastServed {f : State → State × Reply} (h : PortFree f) (s : State) :
    (f s).1.lastServed = s.lastServed := by
  have := congrArg (fun z => z.1.lastServed) (h s s.ports s.lastServed)
  exact this

/-- A request whose rule is not chosen changes nothing. -/
theorem State.serve_of_not_choice {s : State} {p : Port} {r : Request} {f : State → State × Reply}
    (h : s.choice ≠ some (p, r)) : s.serve p r f = s := if_neg h

theorem State.serve_of_choice {s : State} {p : Port} {r : Request} {f : State → State × Reply}
    (h : s.choice = some (p, r)) : s.serve p r f = s.take p r f := if_pos h

/-- Taking a request that its port may send: the rule's state, answered with the rule's reply. -/
theorem State.take_eq_answered {s : State} {p : Port} {r : Request} {f : State → State × Reply} (hf : PortFree f)
    (hp : supervisorOnly r.call.kind = false ∨ p = .sup) : s.take p r f = (f s).1.answered p r (f s).2 := by
  have hd : (supervisorOnly r.call.kind && decide (p ≠ .sup)) = false := by
    rcases hp with h | h <;> simp [h]
  have hq : s.dequeue p =
      { s with
        ports := s.ports.set p { s.ports.get p with buffer := (s.ports.get p).buffer.tail }
        lastServed := (match p with | .client n => n | .sup => s.lastServed) } := by
    cases p <;> rfl
  replace hq : s.dequeue p = s.withPorts _ _ := hq
  unfold State.take
  simp only [hd]
  rw [hq, hf s]
  simp only [State.withPorts, State.answer, State.mapPort, State.answered, hf.ports]
  cases p <;> simp [hf.lastServed]

/-- Taking a supervisor-only request from a client answers DENIED. -/
theorem State.take_denied {s : State} {n : Client} {r : Request} {f : State → State × Reply}
    (h : supervisorOnly r.call.kind = true) :
    s.take (.client n) r f = s.answered (.client n) r (plainReply .denied) := by
  simp [State.take, h, refuse, State.answer, State.mapPort, State.answered, State.dequeue, plainReply]

/-! ### What rules read does not depend on the ports -/

section
variable (s : State) (P : PerSession PortState) (l : Client)

@[simp] theorem withPorts_table : (s.withPorts P l).table = s.table := by cases s; rfl
@[simp] theorem withPorts_tagMaps : (s.withPorts P l).tagMaps = s.tagMaps := by cases s; rfl
@[simp] theorem withPorts_pool : (s.withPorts P l).pool = s.pool := by cases s; rfl
@[simp] theorem withPorts_sessions : (s.withPorts P l).sessions = s.sessions := by cases s; rfl
@[simp] theorem withPorts_scan : (s.withPorts P l).scan = s.scan := by cases s; rfl
@[simp] theorem withPorts_resolver : (s.withPorts P l).resolver = s.resolver := by cases s; rfl
@[simp] theorem withPorts_front : (s.withPorts P l).front = s.front := by cases s; rfl
@[simp] theorem withPorts_shown : (s.withPorts P l).shown = s.shown := by cases s; rfl
@[simp] theorem withPorts_link : (s.withPorts P l).link = s.link := by cases s; rfl
@[simp] theorem withPorts_alerts : (s.withPorts P l).alerts = s.alerts := by cases s; rfl
@[simp] theorem withPorts_commitsDue : (s.withPorts P l).commitsDue = s.commitsDue := by cases s; rfl
@[simp] theorem withPorts_resetLow : (s.withPorts P l).resetLow = s.resetLow := by cases s; rfl
@[simp] theorem withPorts_pending : (s.withPorts P l).pending = s.pending := by cases s; rfl
@[simp] theorem withPorts_sessionRefusal (x : Session) (a : Access) :
    (s.withPorts P l).sessionRefusal x a = s.sessionRefusal x a := by cases s; rfl
@[simp] theorem withPorts_configured : (s.withPorts P l).configured = s.configured := by cases s; rfl
@[simp] theorem withPorts_regionByTag (x : Session) (t : Word16) :
    (s.withPorts P l).regionByTag x t = s.regionByTag x t := by cases s; rfl
@[simp] theorem withPorts_entryFor (k : Slot) : (s.withPorts P l).entryFor k = s.entryFor k := by cases s; rfl
@[simp] theorem withPorts_claimOverlaps (o : Option Slot) (r : Rect) (n : Nat) :
    (s.withPorts P l).claimOverlaps o r n = s.claimOverlaps o r n := by cases s; rfl
@[simp] theorem withPorts_poolFull : (s.withPorts P l).poolFull = s.poolFull := by cases s; rfl
@[simp] theorem withPorts_lowestFree : (s.withPorts P l).lowestFree = s.lowestFree := by cases s; rfl
@[simp] theorem withPorts_pinnedCount : (s.withPorts P l).pinnedCount = s.pinnedCount := by cases s; rfl
@[simp] theorem withPorts_countRegions (f : Region → Bool) :
    (s.withPorts P l).countRegions f = s.countRegions f := by cases s; rfl
@[simp] theorem withPorts_regionCount (x : Session) : (s.withPorts P l).regionCount x = s.regionCount x := by cases s; rfl
@[simp] theorem withPorts_rankHeld (n : Nat) : (s.withPorts P l).rankHeld n = s.rankHeld n := by cases s; rfl
@[simp] theorem withPorts_effectiveFrame : (s.withPorts P l).effectiveFrame = s.effectiveFrame := by cases s; rfl
@[simp] theorem withPorts_sessionReport (x : Session) :
    (s.withPorts P l).sessionReport x = s.sessionReport x := by cases s; rfl
@[simp] theorem withPorts_prospectiveFill (k : Slot) (r : Region) :
    (s.withPorts P l).prospectiveFill k r = s.prospectiveFill k r := by cases s; rfl
@[simp] theorem withPorts_amendOverlaps (k : Slot) (r : Region) (f : StagedFields) :
    (s.withPorts P l).amendOverlaps k r f = s.amendOverlaps k r f := by cases s; rfl
@[simp] theorem withPorts_supHasNotices : (s.withPorts P l).supHasNotices = s.supHasNotices := by cases s; rfl
@[simp] theorem withPorts_regionReport (k : Slot) : (s.withPorts P l).regionReport k = s.regionReport k := by cases s; rfl
@[simp] theorem withPorts_scanReport : (s.withPorts P l).scanReport = s.scanReport := by cases s; rfl
@[simp] theorem withPorts_quotaSumWith (n : Client) (q : Nat) :
    (s.withPorts P l).quotaSumWith n q = s.quotaSumWith n q := by cases s; rfl

end

/-! ### Every rule but SOFT_RESET's is free of the ports -/

/-- Two outcomes of one condition that agree but for the ports agree. -/
theorem ite_withPorts {c : Prop} [Decidable c] {P : PerSession PortState} {l : Client} {a b a' b' : State × Reply}
    (ha : a = (a'.1.withPorts P l, a'.2)) (hb : b = (b'.1.withPorts P l, b'.2)) :
    (if c then a else b) = ((if c then a' else b').1.withPorts P l, (if c then a' else b').2) := by
  by_cases h : c
  · rw [if_pos h, if_pos h]
    exact ha
  · rw [if_neg h, if_neg h]
    exact hb
theorem attachRequest_portFree (p : Port) : PortFree (attachRequest p) := by
  intro s P l
  cases p with
  | sup => rfl
  | client n =>
    simp only [attachRequest, withPorts_sessions]
    cases (s.sessions.get (.client n)).state <;> rfl

theorem detachRequest_portFree (p : Port) : PortFree (detachRequest p) := by
  intro s P l
  cases p with
  | sup => rfl
  | client n =>
    simp only [detachRequest, withPorts_sessions]
    cases (s.sessions.get (.client n)).state <;> rfl

theorem setLimitsRequest_portFree (a b c d : Byte) : PortFree (setLimitsRequest a b c d) := by
  intro s P l
  unfold setLimitsRequest
  cases clientOf a with
  | none => rfl
  | some n =>
    simp only [withPorts_sessions, withPorts_quotaSumWith]
    (repeat' apply ite_withPorts) <;> rfl

theorem changePending_portFree (b : Byte) (f : SessionRecord → PendingChange) : PortFree (changePending b f) := by
  intro s P l
  unfold changePending
  cases clientOf b with
  | none => rfl
  | some n =>
    simp only [withPorts_sessions]
    cases (s.sessions.get (.client n)).state <;> rfl

theorem suspendRequest_portFree (b : Byte) : PortFree (suspendRequest b) := changePending_portFree b _

theorem resumeRequest_portFree (b : Byte) : PortFree (resumeRequest b) := changePending_portFree b _

theorem evictRequest_portFree (b : Byte) : PortFree (evictRequest b) := by
  intro s P l
  unfold evictRequest
  cases clientOf b with
  | none => rfl
  | some n =>
    simp only [withPorts_sessions]
    cases (s.sessions.get (.client n)).state <;> rfl

theorem openRequest_portFree (p : Port) (b : FieldBlock) : PortFree (openRequest p b) := by
  intro s P l
  cases p with
  | sup => simp only [openRequest, withPorts_configured]; (repeat' apply ite_withPorts) <;> rfl
  | client n =>
    simp only [openRequest, openClient, withPorts_sessionRefusal, withPorts_configured, withPorts_sessions,
      withPorts_tagMaps,
      withPorts_scan, withPorts_claimOverlaps, withPorts_poolFull, withPorts_lowestFree, withPorts_effectiveFrame]
    cases s.sessionRefusal (.client n) .change with
    | some c => rfl
    | none =>
      cases s.lowestFree <;> (dsimp only; (repeat' apply ite_withPorts) <;> rfl)

theorem pinRequest_portFree (b : FieldBlock) : PortFree (pinRequest b) := by
  intro s P l
  simp only [pinRequest, withPorts_configured, withPorts_tagMaps, withPorts_scan, withPorts_pinnedCount, withPorts_rankHeld,
    withPorts_poolFull, withPorts_lowestFree, withPorts_effectiveFrame]
  cases s.lowestFree <;> (dsimp only; (repeat' apply ite_withPorts) <;> rfl)

theorem amendChecked_portFree (p : Port) (b : FieldBlock) (k : Slot) (r : Region) : PortFree (amendChecked p b k r) := by
  intro s P l
  simp only [amendChecked, withPorts_sessions, withPorts_scan, withPorts_prospectiveFill, withPorts_amendOverlaps,
    withPorts_entryFor, withPorts_poolFull, State.stageAmend]
  cases p <;> cases s.entryFor k <;> (dsimp only; (repeat' apply ite_withPorts) <;> rfl)

theorem amendRequest_portFree (p : Port) (b : FieldBlock) : PortFree (amendRequest p b) := by
  intro s P l
  simp only [amendRequest, withPorts_sessionRefusal, withPorts_regionByTag]
  cases s.sessionRefusal p .change with
  | some c => rfl
  | none =>
    rcases s.regionByTag p b.tag with c | ⟨k, r⟩
    · rfl
    · dsimp only
      cases r.state <;> first | rfl | exact amendChecked_portFree p b k r s P l

theorem renewRegion_portFree (k : Slot) (r : Region) : PortFree (renewRegion k r) := by
  intro s P l
  simp only [renewRegion, withPorts_entryFor, withPorts_poolFull]
  cases r.state <;> first | rfl | (dsimp only; (repeat' apply ite_withPorts) <;> rfl)

theorem renewEntry_withPorts (P : PerSession PortState) (l : Client) (a : RenewTally) (e : TagEntry) :
    renewEntry { a with state := a.state.withPorts P l } e =
      { renewEntry a e with state := (renewEntry a e).state.withPorts P l } := by
  simp only [renewEntry, withPorts_table, withPorts_entryFor, withPorts_poolFull]
  cases e.slot with
  | none => rfl
  | some k =>
    dsimp only
    cases a.state.table[k] with
    | none => rfl
    | some r =>
      dsimp only
      cases r.state <;> first | rfl | (dsimp only; split_ifs <;> rfl)

theorem renewFold_withPorts (P : PerSession PortState) (l : Client) (m : List TagEntry) :
    ∀ a : RenewTally, m.foldl renewEntry { a with state := a.state.withPorts P l } =
      { m.foldl renewEntry a with state := (m.foldl renewEntry a).state.withPorts P l } := by
  induction m with
  | nil => intro a; rfl
  | cons e m ih => intro a; rw [List.foldl_cons, List.foldl_cons, renewEntry_withPorts, ih]

theorem renewEvery_portFree (x : Session) : PortFree (renewEvery x) := by
  intro s P l
  have h := renewFold_withPorts P l (s.tagMaps.get x) { state := s, renewed := 0, revived := 0, incomplete := false }
  simp only [renewEvery, withPorts_tagMaps, h, withPorts_effectiveFrame, State.raiseIf]
  split <;> rfl

theorem renewRequest_portFree (p : Port) (tag : Word16) : PortFree (renewRequest p tag) := by
  intro s P l
  cases p with
  | sup => rfl
  | client n =>
    simp only [renewRequest, withPorts_sessionRefusal, withPorts_regionByTag]
    cases s.sessionRefusal (.client n) .change with
    | some c => rfl
    | none =>
      dsimp only
      split_ifs
      · exact renewEvery_portFree _ s P l
      · rcases s.regionByTag (.client n) tag with c | ⟨k, r⟩
        · rfl
        · exact renewRegion_portFree k r s P l

theorem removeRegion_portFree (p : Port) (z : EntryKind) (k : Slot) (r : Region) : PortFree (removeRegion p z k r) := by
  intro s P l
  simp only [removeRegion, withPorts_entryFor, withPorts_poolFull, State.stageRemoval]
  cases r.state <;> cases s.entryFor k <;> first | rfl | (dsimp only; (repeat' apply ite_withPorts) <;> rfl)

theorem releaseRequest_portFree (p : Port) (tag : Word16) : PortFree (releaseRequest p tag) := by
  intro s P l
  cases p with
  | sup => rfl
  | client n =>
    simp only [releaseRequest, withPorts_sessionRefusal, withPorts_regionByTag]
    cases s.sessionRefusal (.client n) .change with
    | some c => rfl
    | none =>
      rcases s.regionByTag (.client n) tag with c | ⟨k, r⟩
      · rfl
      · exact removeRegion_portFree (.client n) .release k r s P l

theorem unpinRequest_portFree (tag : Word16) : PortFree (unpinRequest tag) := by
  intro s P l
  simp only [unpinRequest, withPorts_regionByTag]
  rcases s.regionByTag .sup tag with c | ⟨k, r⟩
  · rfl
  · exact removeRegion_portFree .sup .unpin k r s P l

theorem lookupRequest_portFree (p : Port) (tag : Word16) : PortFree (lookupRequest p tag) := by
  intro s P l
  simp only [lookupRequest, withPorts_sessionRefusal, withPorts_regionByTag]
  cases s.sessionRefusal p .read with
  | some c => rfl
  | none => rcases s.regionByTag p tag with c | ⟨k, r⟩ <;> rfl

theorem lookupSlotRequest_portFree (b : Byte) : PortFree (lookupSlotRequest b) := by
  intro s P l
  unfold lookupSlotRequest
  split_ifs <;> rfl

theorem probeReport_withPorts (s : State) (P : PerSession PortState) (l : Client) (p : Port) (x y : Nat) :
    (s.withPorts P l).probeReport p x y = s.probeReport p x y := by
  have hn : (s.withPorts P l).probeNames p = s.probeNames p := by
    funext c
    simp only [State.probeNames, withPorts_shown, withPorts_table]
  simp only [State.probeReport, hn, withPorts_front]

theorem probeRequest_portFree (p : Port) (x y : Word16) : PortFree (probeRequest p x y) := by
  intro s P l
  simp only [probeRequest, withPorts_sessionRefusal, withPorts_configured, withPorts_scan, probeReport_withPorts]
  cases s.sessionRefusal p .read with
  | some c => rfl
  | none => dsimp only; (repeat' apply ite_withPorts) <;> rfl
theorem walkReply_portFree (x : Session) (i : List (Nat × Slot)) (c : Bool) (f : Word16) (n : Nat → Cursor) :
    PortFree (walkReply x i c f n) := fun _ _ _ => rfl

theorem walkItems_withPorts (s : State) (P : PerSession PortState) (l : Client) (x : Session) (f : StateFilter) :
    (s.withPorts P l).walkItems x f = s.walkItems x f := by
  have hf : (s.withPorts P l).filterHolds f = s.filterHolds f := by
    funext k
    simp only [State.filterHolds, withPorts_table]
  cases x <;> simp only [State.walkItems, hf, withPorts_tagMaps]

theorem walkStartRequest_portFree (p : Port) (b : Byte) : PortFree (walkStartRequest p b) := by
  intro s P l
  simp only [walkStartRequest, withPorts_sessionRefusal, walkItems_withPorts, withPorts_scan]
  cases s.sessionRefusal p .read with
  | some c => rfl
  | none => cases filterOf b <;> rfl

theorem walkNextRequest_portFree (p : Port) : PortFree (walkNextRequest p) := by
  intro s P l
  simp only [walkNextRequest, withPorts_sessionRefusal, walkItems_withPorts, withPorts_sessions]
  cases s.sessionRefusal p .read with
  | some c => rfl
  | none => cases (s.sessions.get p).cursor <;> rfl

theorem fetchNoticesRequest_portFree (p : Port) : PortFree (fetchNoticesRequest p) := by
  intro s P l
  simp only [fetchNoticesRequest, withPorts_sessionRefusal]
  cases s.sessionRefusal p .fetch <;> rfl

theorem fetchAlertsRequest_portFree : PortFree fetchAlertsRequest := by
  intro s P l
  simp only [fetchAlertsRequest, withPorts_supHasNotices, State.raiseIf]
  split <;> rfl

theorem setAlertMaskRequest_portFree (m : Byte) : PortFree (setAlertMaskRequest m) := by
  intro s P l
  unfold setAlertMaskRequest
  cases alertMaskOf m <;> rfl

theorem configureRequest_portFree (w h : Word16) (b : Colour) (g : Byte) : PortFree (configureRequest w h b g) := by
  intro s P l
  have hc : (s.withPorts P l).geometryConflict w.toNat h.toNat = s.geometryConflict w.toNat h.toNat := by
    have hb : (s.withPorts P l).slotBeyond w.toNat h.toNat = s.slotBeyond w.toNat h.toNat := by
      funext k
      simp only [State.slotBeyond, withPorts_table, withPorts_entryFor]
    simp only [State.geometryConflict, hb]
  simp only [configureRequest, withPorts_scan, hc]
  cases s.geometryConflict w.toNat h.toNat <;> (dsimp only; (repeat' apply ite_withPorts) <;> rfl)

theorem startRequest_portFree : PortFree startRequest := by
  intro s P l
  simp only [startRequest, withPorts_scan, withPorts_configured]
  (repeat' apply ite_withPorts) <;> rfl

theorem holdRequest_portFree : PortFree holdRequest := by
  intro s P l
  simp only [holdRequest, withPorts_scan]
  (repeat' apply ite_withPorts) <;> rfl

theorem resumeScanRequest_portFree : PortFree resumeScanRequest := by
  intro s P l
  simp only [resumeScanRequest, withPorts_scan]
  (repeat' apply ite_withPorts) <;> rfl

theorem stopRequest_portFree : PortFree stopRequest := fun _ _ _ => rfl

theorem clearTableRequest_portFree : PortFree clearTableRequest := by
  intro s P l
  simp only [clearTableRequest, clearReply, State.clearTable, withPorts_scan, withPorts_countRegions]
  cases s.scan.state <;> rfl

theorem readStatusRequest_portFree : PortFree readStatusRequest := by
  intro s P l
  have hr : (s.withPorts P l).sessionRow = s.sessionRow := by
    funext x
    simp only [State.sessionRow, withPorts_sessions, withPorts_regionCount, withPorts_tagMaps]
  have hs : (s.withPorts P l).statusRecord = s.statusRecord := by
    simp only [State.statusRecord, hr, withPorts_scan, withPorts_resolver, withPorts_front, withPorts_pool,
      withPorts_pinnedCount]
  simp only [readStatusRequest, hs]
  rfl

theorem applyEntry_withPorts (s : State) (P : PerSession PortState) (l : Client) (e : PoolEntry) :
    applyEntry (s.withPorts P l) e = (applyEntry s e).withPorts P l := by
  simp only [applyEntry, withPorts_table]
  cases s.table[e.slot] with
  | none => rfl
  | some r => cases e.kind <;> rfl

theorem applyFold_withPorts (P : PerSession PortState) (l : Client) (m : List PoolEntry) :
    ∀ s : State, m.foldl applyEntry (s.withPorts P l) = (m.foldl applyEntry s).withPorts P l := by
  induction m with
  | nil => intro s; rfl
  | cons e m ih => intro s; rw [List.foldl_cons, List.foldl_cons, applyEntry_withPorts, ih]

theorem applyPending_withPorts (s : State) (P : PerSession PortState) (l : Client) (n : Client) :
    applyPending (s.withPorts P l) n = (applyPending s n).withPorts P l := by
  simp only [applyPending, withPorts_sessions]
  cases (s.sessions.get (.client n)).pending <;> rfl

theorem staged2_withPorts (s : State) (P : PerSession PortState) (l : Client) :
    (s.withPorts P l).staged2 = s.staged2.withPorts P l := by
  have h : (s.withPorts P l).applyPool = s.applyPool.withPorts P l := by
    simp only [State.applyPool, withPorts_pool, applyFold_withPorts]
    rfl
  simp only [State.staged2, h, State.applySessions, clients, List.foldl_cons, List.foldl_nil, applyPending_withPorts]

theorem forceCommitRequest_portFree : PortFree forceCommitRequest := by
  intro s P l
  have hm : ∀ t : State, (t.withPorts P l).present.markCursors = t.present.markCursors.withPorts P l := fun t => rfl
  have hp : (s.withPorts P l).forceParts = s.forceParts.withPorts P l := by
    simp only [State.forceParts, staged2_withPorts, hm]
  have hs : (s.withPorts P l).forceSummary = s.forceSummary := by
    have hc : (s.withPorts P l).pendingChanges = s.pendingChanges := rfl
    have hf : ∀ t : State, (s.withPorts P l).freedBy (t.withPorts P l) = s.freedBy t := fun t => rfl
    simp only [State.forceSummary, hc, hf, staged2_withPorts, withPorts_scan, withPorts_pool]
  simp only [forceCommitRequest, withPorts_scan, hp, hs]
  (repeat' apply ite_withPorts) <;> rfl

/-! ### The request commands together -/

/-- The rule of each request kind, before the arbiter and the port. -/
def requestRule (p : Port) : Call → State → State × Reply
  | .attach => attachRequest p
  | .detach => detachRequest p
  | .openRegion b => openRequest p b
  | .amend b => amendRequest p b
  | .renew t => renewRequest p t
  | .release t => releaseRequest p t
  | .lookup t => lookupRequest p t
  | .probe x y => probeRequest p x y
  | .walkStart f => walkStartRequest p f
  | .walkNext => walkNextRequest p
  | .fetchNotices => fetchNoticesRequest p
  | .pin b => pinRequest b
  | .unpin t => unpinRequest t
  | .lookupSlot k => lookupSlotRequest k
  | .setLimits c q l m => setLimitsRequest c q l m
  | .suspend c => suspendRequest c
  | .resume c => resumeRequest c
  | .evict c => evictRequest c
  | .configure w h b g => configureRequest w h b g
  | .start => startRequest
  | .hold => holdRequest
  | .resumeScan => resumeScanRequest
  | .stop => stopRequest
  | .forceCommit => forceCommitRequest
  | .clearTable => clearTableRequest
  | .softReset => softResetRequest
  | .readStatus => readStatusRequest
  | .fetchAlerts => fetchAlertsRequest
  | .setAlertMask m => setAlertMaskRequest m

/-- A request command is its rule, served. -/
theorem exec_request {c : Instr} {p : Port} {r : Request} (h : c.request = some (p, r)) (s : State) :
    exec c s = .next (s.serve p r (requestRule p r.call)) := by
  cases c <;> simp only [Instr.request, Option.some.injEq, Prod.mk.injEq, reduceCtorEq] at h <;>
    (obtain ⟨rfl, rfl⟩ := h; rfl)

/-- Every rule but SOFT_RESET's is free of the ports. -/
theorem requestRule_portFree (p : Port) (c : Call) (h : c ≠ .softReset) : PortFree (requestRule p c) := by
  cases c with
  | attach => exact attachRequest_portFree p
  | detach => exact detachRequest_portFree p
  | openRegion b => exact openRequest_portFree p b
  | amend b => exact amendRequest_portFree p b
  | renew t => exact renewRequest_portFree p t
  | release t => exact releaseRequest_portFree p t
  | lookup t => exact lookupRequest_portFree p t
  | probe x y => exact probeRequest_portFree p x y
  | walkStart f => exact walkStartRequest_portFree p f
  | walkNext => exact walkNextRequest_portFree p
  | fetchNotices => exact fetchNoticesRequest_portFree p
  | pin b => exact pinRequest_portFree b
  | unpin t => exact unpinRequest_portFree t
  | lookupSlot k => exact lookupSlotRequest_portFree k
  | setLimits c q l m => exact setLimitsRequest_portFree c q l m
  | suspend c => exact suspendRequest_portFree c
  | resume c => exact resumeRequest_portFree c
  | evict c => exact evictRequest_portFree c
  | configure w v b g => exact configureRequest_portFree w v b g
  | start => exact startRequest_portFree
  | hold => exact holdRequest_portFree
  | resumeScan => exact resumeScanRequest_portFree
  | stop => exact stopRequest_portFree
  | forceCommit => exact forceCommitRequest_portFree
  | clearTable => exact clearTableRequest_portFree
  | softReset => exact absurd rfl h
  | readStatus => exact readStatusRequest_portFree
  | fetchAlerts => exact fetchAlertsRequest_portFree
  | setAlertMask m => exact setAlertMaskRequest_portFree m

/-- A chosen request that its port may send, but SOFT_RESET: its rule's state, answered with its rule's reply. -/
theorem exec_of_choice {c : Instr} {p : Port} {r : Request} {s : State} (hc : c.request = some (p, r))
    (h : s.choice = some (p, r)) (hp : supervisorOnly r.call.kind = false ∨ p = .sup) (hr : r.call ≠ .softReset) :
    exec c s = .next ((requestRule p r.call s).1.answered p r (requestRule p r.call s).2) := by
  rw [exec_request hc, State.serve_of_choice h, State.take_eq_answered (requestRule_portFree p r.call hr) hp]

end Sys2Proof.Machine
end

