-- ==== Sys2Proof/Tests/Slice0.lean ====
section
/-! SUPPORT. Tests: the ill-formed terms that WellFormed refuses, the kind table and the layouts of R200 and R201, one step of
each command with its result from the spec's rules and examples, and a witness for the hypotheses of each statement. -/

namespace Sys2Proof.Tests

open Sys2Proof.Machine

set_option Elab.async false

/-! ### WellFormed -/

theorem test_wellFormed_refuses_renew_of_tag_0 : ¬ (Instr.renew (.client 0) 7 0).WellFormed := by decide

theorem test_wellFormed_refuses_command_byte_01h : ¬ (Instr.badCommandByte .sup 0x01#8).WellFormed := by decide

theorem test_wellFormed_refuses_query_code_03h : ¬ (Instr.unknownQuery 0x03#8).WellFormed := by decide

theorem test_wellFormed_refuses_a_body_of_24_bytes : ¬ (Instr.requestDecision .sup (List.replicate 24 0)).WellFormed := by
  decide

theorem test_wellFormed_admits : (Instr.renew (.client 0) 7 1).WellFormed ∧ (Instr.badCommandByte .sup 0x03#8).WellFormed
    ∧ (Instr.unknownQuery 0x04#8).WellFormed ∧ (Instr.requestDecision .sup (List.replicate 23 0)).WellFormed := by decide

/-! ### Small states -/

/-- The state with one request at the front of a port's buffer, sequence 7. -/
def asked (s : State) (p : Port) (c : Call) : State :=
  { s with ports := s.ports.set p { PortState.reset with buffer := [⟨7, c⟩] } }

/-- The state a command leaves. -/
def after (r : Result) : State :=
  match r with
  | .next t => t
  | .fault _ => State.reset
  | .refused _ => State.reset

/-- The state that a command of sequence 7 leaves; a request waits alone at its port first. -/
def did (s : State) (i : Instr) : State :=
  match i.request with
  | some (p, r) => after (exec i (asked s p r.call))
  | none => after (exec i s)

/-- The reply last joined to a port's queue. -/
def replied (s : State) (p : Port) : Option Reply := (s.ports.get p).responses.getLast?.map (fun x => x.reply)

/-- The outcome last joined to a port's queue. -/
def outcome (s : State) (p : Port) : Option ResultCode := (replied s p).map (fun x => x.code)

/-- The body last joined to a port's queue. -/
def body (s : State) (p : Port) : Option Body := (replied s p).map (fun x => x.body)

/-- A client's record in a state, with quota 8, ceiling 3 and lease maximum 10. -/
def member (st : SessionState) (p : PendingChange) : SessionRecord :=
  { state := st, quota := 8, ceiling := 3, leaseMax := 10, pending := p, evicted := false, cursor := none }

/-- A panel of 64 by 48 with grace 2 at frame 9 and every client's record the one given. -/
def base (st : ScanState) (r : SessionRecord) : State :=
  { State.reset with
    sessions := { clients := Vector.replicate 4 r, sup := SessionRecord.supReset }
    scan := { ScanControl.reset with state := st, frame := 9, width := 64, height := 48, grace := 2 } }

/-- C0's tag 5, LIVE on layer 2 in the top left 8 by 8 pixels with remaining 1. -/
def live : Region :=
  { newRegion (.client 0) 5 with
    state := .live, rect := some ⟨0, 0, 8, 8⟩, layer := some 2, fill := some .solid, colour := some 0x112233#24
    lease := some 5, remaining := some 1, presentation := .fill }

/-- C0's tag 6, LAPSED to the right of it with grace_left 1. -/
def lapsed : Region :=
  { live with
    tag := 6, state := .lapsed, rect := some ⟨8, 0, 16, 8⟩, remaining := some 0, graceLeft := some 1, presentation := .none }

/-- C0's tag 7, RETIRING further to the right. -/
def retiring : Region := { live with tag := 7, state := .retiring, rect := some ⟨16, 0, 24, 8⟩ }

/-- SUP's tag 9, pinned at rank 3. -/
def pinned : Region :=
  { newRegion .sup 9 with
    state := .live, rect := some ⟨56, 0, 64, 8⟩, rank := some 3, fill := some .solid, colour := some 0xFF0000#24
    presentation := .fill }

/-- An entry of a kind without fields. -/
def bare (k : Slot) (kind : EntryKind) : PoolEntry := { slot := k, kind := kind, fields := StagedFields.empty }

/-- An entry of a Tag Map with no notice. -/
def named (t : Word16) (k : Slot) : TagEntry := { tag := t, slot := some k, notices := NoticeSet.empty }

/-- A region field block with the mask and fill, for the tag, in the rows below the regions of `held`. -/
def block (tag mask : Word16) (fill : Byte) : FieldBlock :=
  { tag := tag, mask := mask, x0 := 0, y0 := 16, x1 := 8, y1 := 24, layer := 2, rank := 4, lease := 40, fill := fill, stream := 1
    colour := 0x445566, fallback := 0x778899 }

/-- `base` with C0's regions in slots 0 to 3, one in each state, and SUP's in slot 4. -/
def held (st : ScanState) (r : SessionRecord) : State :=
  { base st r with
    table :=
      ((((State.reset.table.set 0 (some live)).set 1 (some lapsed)).set 2 (some retiring)).set 3
        (some (newRegion (.client 0) 8))).set 4 (some pinned)
    pool := [bare 2 .release, { slot := 3, kind := .new, fields := openFields (block 8 0x0040 0x01) 10 }]
    tagMaps :=
      { clients := (Vector.replicate 4 []).set 0 [named 5 0, named 6 1, named 7 2, named 8 3], sup := [named 9 4] } }

/-- The state with a full pool, none of whose entries is for a slot of `held`. -/
def full (s : State) : State := { s with pool := List.replicate 32 (bare 40 .amend) }

/-- An ATTACHED record and a DETACHED one. -/
def on : SessionRecord := member .attached .noChange

/-- A DETACHED record. -/
def off : SessionRecord := member .detached .noChange

/-- A claim block clear of every region of `held`: tag 1, layer 2, SOLID. -/
def claim : FieldBlock := { block 1 0x0040 0x01 with y0 := 32, y1 := 40 }

/-- A plan of 64 by 48: C0's region of slot 0 in the top left 8 by 8 pixels, background elsewhere. -/
def plan : Plan :=
  { epoch := 9, status := .full, width := 64, height := 48
    bands :=
      [{ y0 := 0, y1 := 8
         spans :=
          [{ x0 := 0, x1 := 8
             content := { kind := .solid, owner := some (.client 0), slot := some 0, stream := none, colour := some 0x112233 } },
           { x0 := 8, x1 := 64, content := backgroundContent 0 }] },
       { y0 := 8, y1 := 48, spans := [{ x0 := 0, x1 := 64, content := backgroundContent 0 }] }] }

/-- `held` in RUNNING with that plan in front and slot 0 shown. -/
def running : State := { held .running on with front := some plan, shown := State.reset.shown.set 0 true }

/-- `running` with the commit of frame 10 waiting. -/
def committing : State := { running with commitsDue := [10] }

/-- A resolve of `plan`'s one candidate. -/
def job : ResolveJob :=
  { epoch := 9, width := 64, height := 48, background := 0
    candidates := [{ rect := ⟨0, 0, 8, 8⟩, level := 2, pinned := false
                     content := { kind := .solid, owner := some (.client 0), slot := some 0, stream := none
                                  colour := some 0x112233 } }] }

/-- The request waits at the front of its port and the arbiter chooses it. -/
abbrev Chosen (s : State) (p : Port) (c : Call) : Prop := (asked s p c).choice = some (p, ⟨7, c⟩)

theorem test_held_agrees : (held .stopped on).TableAgrees := by decide +kernel

theorem test_held_regions : (held .stopped on).RegionsLegal := by decide +kernel

/-! ### Bytes of R200 and R201 -/

/-- Kind codes and body lengths from the table of R200. -/
theorem test_kind_codes : kindOfCode 0x03#8 = some .openRegion ∧ kindOfCode 0x0B#8 = some .fetchNotices
    ∧ kindOfCode 0x20#8 = some .pin ∧ kindOfCode 0x27#8 = some .configure ∧ kindOfCode 0x31#8 = some .setAlertMask
    ∧ kindOfCode 0x0C#8 = none ∧ kindOfCode 0x1F#8 = none ∧ kindOfCode 0x32#8 = none ∧ kindOfCode 0x00#8 = none
    ∧ Kind.configure.bodyLength = 8 ∧ Kind.probe.bodyLength = 4 ∧ Kind.amend.bodyLength = 23 := by decide

/-- CONFIGURE carries W, H, background and grace, most significant byte first. -/
theorem test_configure_body :
    callOfBytes .configure [0x07, 0x80, 0x02, 0xD0, 0x10, 0x20, 0x30, 0x03] = some (.configure 1920 720 0x102030 3) := by
  decide

/-- The region field block, byte by byte. -/
theorem test_open_body :
    callOfBytes .openRegion
        [0x01, 0x02, 0x00, 0xC0, 0x00, 0x0A, 0x00, 0x0B, 0x01, 0x00, 0x00, 0xFF, 0x03, 0x04, 0x05, 0x01, 0x02,
         0xAA, 0xBB, 0xCC, 0x11, 0x22, 0x33] =
      some (.openRegion
        { tag := 0x0102, mask := 0x00C0, x0 := 10, y0 := 11, x1 := 256, y1 := 255, layer := 3, rank := 4, lease := 5,
          fill := 1, stream := 2, colour := 0xAABBCC, fallback := 0x112233 }) := by decide

/-- An OPEN's OK response: header, presence byte, slot, granted lease, effective frame. -/
theorem test_open_response_bytes :
    ({ kind := .openRegion, seq := 9, reply := okReply (.opened 4 20 (some 501)) } : Response).bytes =
      [0x03, 0x09, 0x00, 0x05, 0x00, 0x01, 0x04, 0x14, 0x01, 0xF5] := by decide

/-- An absent effective frame takes its place with zeros and a clear presence bit. -/
theorem test_absent_field_bytes : (Body.opened 4 20 none).bytes = [0x00, 0x04, 0x14, 0x00, 0x00] := by decide

/-- The status record is 58 bytes long and opens with state, frame, expectation, Resolver and front plan. -/
theorem test_status_bytes :
    running.statusRecord.bytes.length = 58
      ∧ running.statusRecord.bytes.take 10 = [0x02, 0x00, 0x09, 0x00, 0x00, 0x01, 0x00, 0x09, 0x02, 0x01] := by decide +kernel

/-- A region report is 30 bytes: tag, slot, state, owner, class, presence, rectangle. -/
theorem test_region_report_bytes :
    ((held .stopped on).regionReport 0).bytes.length = 30
      ∧ ((held .stopped on).regionReport 0).bytes.take 16 =
          [0x00, 0x05, 0x00, 0x02, 0x00, 0x00, 0x53, 0x00, 0x00, 0x00, 0x00, 0x00, 0x08, 0x00, 0x08, 0x02] := by decide +kernel

/-- A FREE slot's report: tag 0, its slot, FREE, owner and class FFh, no presence bit, staged kind none, no flag. -/
theorem test_free_slot_report_bytes :
    ((held .stopped on).regionReport 63).bytes.length = 30
      ∧ ((held .stopped on).regionReport 63).bytes.take 7 = [0x00, 0x00, 0x3F, 0x00, 0xFF, 0xFF, 0x00]
      ∧ (((held .stopped on).regionReport 63).bytes.drop 27).take 2 = [0x00, 0x00] :=
  ⟨rfl, rfl, rfl⟩

/-- A LINK_BUSY answer follows the answer it waited for. -/
theorem test_link_bytes : (Link.answering (.noPlan 0x01) [0x02]).bytes = [0x80, 0x01, 0x82, 0x02] := by decide

/-- SDO by transaction state: EMPTY and IGNORING drive FFh, FRAMING is 02h. -/
theorem test_drives : Transaction.ignoring.drives = .always 0xFF ∧ (Transaction.status .framing).drives = .message [0x02]
    ∧ Transaction.idle.drives = .highImpedance := by decide

/-! ### The host's interface -/

theorem test_decodeTableWord : decodeTableWord 8 0 = none := by decide

theorem test_core_step : Sys2Proof.core.step { State.reset with pending := [.vblank] } = .next State.reset := rfl

/-! ### Sessions -/

theorem test_attach_reports_and_clears_the_evicted_mark :
    (body (did (base .stopped { off with evicted := true }) (.attach (.client 2) 7)) (.client 2)
        = some (.session { session := .client 2, state := .attached, pending := .noChange, quota := 8, ceiling := 3,
                           leaseMax := 10, evicted := true, effective := none }))
      ∧ ((did (base .stopped { off with evicted := true }) (.attach (.client 2) 7)).sessions.get (.client 2)).evicted = false := by
  decide +kernel

theorem test_attach_twice : outcome (did (base .stopped on) (.attach (.client 0) 7)) (.client 0) = some .already := by
  decide +kernel

/-- One region goes at once, three are then RETIRING, and no entry of the client is left. -/
theorem test_detach :
    body (did (held .stopped on) (.detach (.client 0) 7)) (.client 0)
        = some (.departure
            { session := .client 0, state := .draining, pending := .drain, quota := 8, ceiling := 3, leaseMax := 10,
              evicted := false, effective := none } 1 3)
      ∧ (did (held .stopped on) (.detach (.client 0) 7)).pool = [] := by decide +kernel

/-- The example of chapter 2: 56 is within the limit and 60 is not. -/
theorem test_set_limits_sum :
    outcome (did (base .stopped off) (.setLimits .sup 7 1 32 9 120)) .sup = some .ok
      ∧ outcome (did (base .stopped { off with quota := 9 }) (.setLimits .sup 7 1 32 9 120)) .sup = some .limitsConflict := by
  decide +kernel

theorem test_suspend_stages : ((did (base .running on) (.suspend .sup 7 3)).sessions.get (.client 3)).pending = .suspend := by
  decide +kernel

theorem test_resume_cancels_a_suspension :
    ((did (base .running (member .attached .suspend)) (.resume .sup 7 3)).sessions.get (.client 3)).pending = .noChange := by
  decide +kernel

theorem test_evict_sets_the_mark :
    ((did (held .running on) (.evict .sup 7 0)).sessions.get (.client 0)).evicted = true
      ∧ ((did (held .running on) (.evict .sup 7 0)).sessions.get (.client 0)).state = .draining := by decide +kernel

/-! ### Region requests -/

/-- The lowest FREE slot is 5, the lease of 40 is clamped to 10, and the next commit is that of frame 10. -/
theorem test_open :
    body (did running (.openRegion (.client 1) 7 claim)) (.client 1) = some (.opened 5 10 (some 10)) := by decide +kernel

/-- A LAPSED region still reserves its area on its layer (chapter 3, one frame of staging, step 1). -/
theorem test_open_overlaps_a_lapsed_region :
    outcome (did running (.openRegion (.client 1) 7 { claim with x0 := 8, y0 := 0, x1 := 12, y1 := 4 })) (.client 1)
      = some .overlap := by decide +kernel

theorem test_amend_stages_an_entry :
    body (did running (.amend (.client 0) 7 (block 5 0x0008 0))) (.client 0) = some (.amended 0 (some 10) false (some 10))
      ∧ ((did running (.amend (.client 0) 7 (block 5 0x0008 0))).table[(0 : Slot)]) = some live := by decide +kernel

theorem test_amend_of_a_lapsed_region :
    outcome (did running (.amend (.client 0) 7 (block 6 0x0008 0))) (.client 0) = some .lapsed := by decide +kernel

theorem test_renew_sets_remaining :
    (did running (.renew (.client 0) 7 5)).table[(0 : Slot)] = some { live with remaining := some 5 } := by decide +kernel

/-- One LIVE region renewed, one LAPSED one revived, nothing left over. -/
theorem test_renew_all :
    body (did running (.renewAll (.client 0) 7)) (.client 0) = some (.renewedAll 1 1 false (some 10)) := by decide +kernel

/-- Chapter 3, a full pool: renewed 1, revived 0, incomplete set, and the alert is raised. -/
theorem test_renew_all_with_a_full_pool :
    body (did (full running) (.renewAll (.client 0) 7)) (.client 0) = some (.renewedAll 1 0 true none)
      ∧ (did (full running) (.renewAll (.client 0) 7)).alerts.pending.stageFull = true := by decide +kernel

theorem test_release_stages :
    body (did running (.release (.client 0) 7 5)) (.client 0) = some (.released 0 .staged (some 10))
      ∧ (did running (.release (.client 0) 7 5)).table[(0 : Slot)] = some { live with state := .retiring } := by decide +kernel

theorem test_release_frees_a_staged_region :
    body (did running (.release (.client 0) 7 8)) (.client 0) = some (.released 3 .freed none)
      ∧ (did running (.release (.client 0) 7 8)).table[(3 : Slot)] = none := by decide +kernel

theorem test_pin :
    body (did running (.pin .sup 7 (block 1 0x0040 0x01))) .sup = some (.pinned 5 (some 10)) := by decide +kernel

theorem test_pin_of_a_held_rank :
    outcome (did running (.pin .sup 7 { block 1 0x0040 0x01 with rank := 3 })) .sup = some .rankInUse := by decide +kernel

theorem test_unpin : body (did running (.unpin .sup 7 9)) .sup = some (.released 4 .staged (some 10)) := by decide +kernel

/-- The session state of R26 beside the region report of R67. -/
theorem test_lookup_reports_the_session_state :
    replied (did (held .running (member .suspended .noChange)) (.lookup (.client 0) 7 5)) (.client 0)
      = some { code := .ok, body := .looked .suspended
               records := [.region ((held .running (member .suspended .noChange)).regionReport 0)] } := by decide +kernel

theorem test_lookup_of_an_unused_tag :
    outcome (did running (.lookup (.client 1) 7 5)) (.client 1) = some .noSuchTag := by decide +kernel

theorem test_lookup_slot_of_a_free_slot :
    (replied (did running (.lookupSlot .sup 7 5)) .sup).map (fun r => r.records)
      = some [.region { slot := 5, region := none }] := by decide +kernel

/-! ### Probe and walks -/

/-- The owner learns slot and tag; another client learns the owner only. -/
theorem test_probe :
    body (did running (.probe (.client 0) 7 3 4)) (.client 0)
        = some (.probe (some { epoch := 9, status := .full, y0 := 0, y1 := 8, x0 := 0, x1 := 8, kind := .solid,
                               owner := some (.client 0), slot := some 0, tag := some 5, stale := false }))
      ∧ body (did running (.probe (.client 1) 7 3 4)) (.client 1)
        = some (.probe (some { epoch := 9, status := .full, y0 := 0, y1 := 8, x0 := 0, x1 := 8, kind := .solid,
                               owner := some (.client 0), slot := none, tag := none, stale := false })) := by decide +kernel

theorem test_walk_start :
    body (did running (.walkStart (.client 0) 7 0x06)) (.client 0) = some (.walk 2 false false 9)
      ∧ (((did running (.walkStart (.client 0) 7 0x06)).sessions.get (.client 0)).cursor.map (fun c => c.key)) = some 6 := by
  decide +kernel

theorem test_walk_next_without_a_cursor :
    outcome (did running (.walkNext (.client 0) 7)) (.client 0) = some .noCursor := by decide +kernel

/-! ### Notices and alerts -/

/-- A map as in chapter 8's example: tags 2, 4 and 11 hold notices, 4 and 11 without a slot. -/
def noticed : State :=
  { base .running on with
    tagMaps :=
      State.reset.tagMaps.set (.client 0)
        [{ named 2 5 with notices := { NoticeSet.empty with applied := true } },
         { tag := 4, slot := none, notices := { applied := false, lapsed := true, retired := true, visibility := some .hidden } },
         named 7 9, { tag := 11, slot := none, notices := { NoticeSet.empty with retired := true } }] }

theorem test_fetch_notices :
    body (did noticed (.fetchNotices (.client 0) 7)) (.client 0) = some (.notices 3 false)
      ∧ (did noticed (.fetchNotices (.client 0) 7)).tagMaps.get (.client 0) = [named 2 5, named 7 9]
      ∧ noticed.attention 0 = true ∧ (did noticed (.fetchNotices (.client 0) 7)).attention 0 = false := by decide +kernel

/-- `running` with APPLIED outstanding for SUP's tag, SYNC_ORDER pending, and only PIN_NOTICE enabled. -/
def alerted : State :=
  { running with
    tagMaps := running.tagMaps.set .sup [{ named 9 4 with notices := { NoticeSet.empty with applied := true } }]
    alerts :=
      { AlertSet.reset with
        pending := { AlertSet.reset.pending with syncOrder := true }
        mask := { AlertSet.reset.pending with pinNotice := true } } }

/-- The pending set is emptied and PIN_NOTICE raised again, which asserts ALERT. -/
theorem test_fetch_alerts :
    (did alerted (.fetchAlerts .sup 7)).alerts.pending = { AlertSet.reset.pending with pinNotice := true }
      ∧ alerted.alertLine = false ∧ (did alerted (.fetchAlerts .sup 7)).alertLine = true := by decide +kernel

/-- Bit 2 is SYNC_ORDER; bit 7 gives BAD_REQUEST. -/
theorem test_set_alert_mask :
    (did alerted (.setAlertMask .sup 7 0x04)).alertLine = true
      ∧ outcome (did alerted (.setAlertMask .sup 7 0x80)) .sup = some .badRequest := by decide +kernel

/-! ### Scan control -/

theorem test_configure_names_the_lowest_conflict :
    body (did (held .stopped on) (.configure .sup 7 60 48 0 3)) .sup = some (.conflict 4) := by decide +kernel

theorem test_configure_bounds :
    outcome (did (base .stopped on) (.configure .sup 7 16 4096 0 15)) .sup = some .ok
      ∧ outcome (did (base .stopped on) (.configure .sup 7 15 4096 0 15)) .sup = some .badRequest
      ∧ outcome (did (base .stopped on) (.configure .sup 7 16 4097 0 15)) .sup = some .badRequest
      ∧ outcome (did (base .stopped on) (.configure .sup 7 16 4096 0 16)) .sup = some .badRequest := by decide +kernel

theorem test_start :
    body (did (base .stopped on) (.start .sup 7)) .sup
        = some (.scan { state := .priming, frame := 9, expect := .vblank, resolver := .idle })
      ∧ (did (base .stopped on) (.start .sup 7)).scan.firstCommit = true := by decide +kernel

theorem test_hold : (did running (.hold .sup 7)).scan.state = .hold
    ∧ outcome (did (base .priming on) (.hold .sup 7)) .sup = some .scanState := by decide +kernel

theorem test_resume_scan : (did { running with scan := { running.scan with state := .hold } } (.resumeScan .sup 7)).scan.state
    = .running := by decide +kernel

theorem test_stop : (did running (.stop .sup 7)).front = none ∧ (did running (.stop .sup 7)).scan.state = .stopped
    ∧ (did running (.stop .sup 7)).shown[(0 : Slot)] = false := by decide +kernel

/-- The RELEASE and the NEW entry are applied; no lease is counted: slot 0 keeps remaining 1. -/
theorem test_force_commit :
    body (did (held .stopped on) (.forceCommit .sup 7)) .sup
        = some (.committed { frame := 9, applied := 2, sessionChanges := 0, freed := 1, material := true })
      ∧ (did (held .stopped on) (.forceCommit .sup 7)).table[(0 : Slot)] = some live := by decide +kernel

theorem test_clear_table :
    body (did (held .stopped on) (.clearTable .sup 7)) .sup
        = some (.cleared { state := .stopped, frame := 9, expect := .vblank, resolver := .idle } 5 2)
      ∧ outcome (did running (.clearTable .sup 7)) .sup = some .scanState := by decide +kernel

/-- SOFT_RESET answers after it has emptied the queues, and keeps the limits and the mask. -/
theorem test_soft_reset :
    ((did running (.softReset .sup 7)).ports.get .sup).responses
        = [{ kind := .softReset, seq := 7, reply := plainReply .ok }]
      ∧ ((did running (.softReset .sup 7)).sessions.get (.client 0)) = { off with evicted := false }
      ∧ (did running (.softReset .sup 7)).scan.width = 64 := by decide +kernel

theorem test_read_status :
    (did running (.readStatus .sup 7)).ports.get .sup
      = { buffer := [], transaction := .idle,
          responses := [{ kind := .readStatus, seq := 7, reply := okReply (.status running.statusRecord) }] } := by decide +kernel

/-! ### The frame path -/

theorem test_vblank_hands_over_a_commit : (did running .vblank).commitsDue = [10] ∧ (did running .vblank).scan.frame = 10
    ∧ (did running .vblank).scan.expect = .fstart := by decide +kernel

/-- In STOPPED an edge is ignored; out of turn it raises SYNC_ORDER. -/
theorem test_fstart_out_of_turn : did (base .stopped on) .fstart = base .stopped on
    ∧ (did running .fstart).alerts.pending.syncOrder = true := by decide +kernel

/-- A swap is due, and PRIMING. -/
def swapping : State :=
  { held .priming on with
    resolver := .ready plan, scan := { (held .priming on).scan with expect := .fstart } }

/-- The swap: the front plan, the mark, VISIBILITY SHOWN and RUNNING; behind a waiting material commit it is late (R155). -/
theorem test_swap : (did swapping .fstart).front = some plan ∧ (did swapping .fstart).scan.state = .running
    ∧ (did swapping .fstart).shown[(0 : Slot)] = true
    ∧ ((did swapping .fstart).tagMaps.get (.client 0)).head?.map (fun e => e.notices)
        = some { NoticeSet.empty with visibility := some .shown }
    ∧ (did { swapping with commitsDue := [9], pool := [bare 0 .amend] } .fstart).front = none
    ∧ (did { swapping with commitsDue := [9], pool := [bare 0 .amend] } .fstart).alerts.pending.planLate = true := by
  decide +kernel

/-- Slot 0 lapses with grace 2, slot 1 retires, slot 2 is released and slot 3 becomes LIVE. -/
theorem test_commit :
    (did committing .commit).table[(0 : Slot)]
        = some { live with state := .lapsed, remaining := some 0, graceLeft := some 2, presentation := .none }
      ∧ (did committing .commit).table[(1 : Slot)] = none ∧ (did committing .commit).table[(2 : Slot)] = none
      ∧ (did committing .commit).table[(3 : Slot)].map (fun r => (r.state, r.remaining, r.awaiting)) = some (.live, some 10, true)
      ∧ ((did committing .commit).tagMaps.get (.client 0)).map (fun e => (e.tag, e.slot, e.notices.lapsed, e.notices.retired))
          = [(5, some 0, true, false), (6, none, false, true), (8, some 3, false, false)] := by decide +kernel

theorem test_lease_lapse : (did committing (.leaseLapse 0)).table = (did committing .commit).table
    ∧ (did committing (.leaseLapse 1)).commitsDue = [10] := by decide +kernel

theorem test_grace_retire : (did committing (.graceRetire 1)).table = (did committing .commit).table
    ∧ (did committing (.graceRetire 0)).commitsDue = [10] := by decide +kernel

theorem test_resolve_completion : (did { running with resolver := .resolving job } .resolveCompletion).resolver = .ready plan := by
  decide +kernel

/-- From R104 to R106: rank 0 lies above layer 15, layer 15 above layer 2, a suspended client's region gives its fallback colour as
SOLID under its own owner and slot, and a LAPSED region nothing. -/
theorem test_stacking :
    let raised : Region := { live with layer := some 15, fallback := some 0xABCDEF#24, presentation := .fallback }
    let rank0 : Region := { pinned with rect := some ⟨0, 0, 4, 8⟩, rank := some 0 }
    let table :=
      (((State.reset.table.set 0 (some live)).set 1 (some raised)).set 2 (some rank0)).set 3 (some lapsed)
    let s : State := { base .running on with table := table }
    (contentAt s.candidates 0 0 0).slot = some 2 ∧ (contentAt s.candidates 0 12 0).kind = .background
      ∧ contentAt s.candidates 0 4 0 =
          { kind := .solid, owner := some (.client 0), slot := some 1, stream := none, colour := some 0xABCDEF#24 } := by
  decide +kernel

/-- RESET_N low holds a selected port in IGNORING and keeps no register. -/
theorem test_reset_n :
    did (did { running with ports := running.ports.set .sup { PortState.reset with transaction := .header [] } } (.resetN .low))
        (.resetN .high)
      = { State.reset with ports := State.reset.ports.set .sup { PortState.reset with transaction := .ignoring } } := by
  decide +kernel

/-! ### The scan link -/

theorem test_plan_query : (did running .planQuery).link = .answering (.plan 9 .full 2 64 48) [] := by decide +kernel

/-- A query during an answer is owed a LINK_BUSY. -/
theorem test_plan_query_while_answering : (did (did running .planQuery) (.lineQuery 3)).link
    = .answering (.plan 9 .full 2 64 48) [0x02] := by decide +kernel

theorem test_line_query : (did running (.lineQuery 8)).link.bytes.take 10 = [0x01, 0x02, 0x00, 0x09, 0x01, 0, 8, 0, 48, 1]
    ∧ (did running (.lineQuery 48)).link = .answering (.range 0x02) [] := by decide +kernel

theorem test_band_query : (did running (.bandQuery 2)).link = .answering (.range 0x03) []
    ∧ (did (base .stopped on) (.bandQuery 0)).link = .answering (.noPlan 0x03) [] := by decide +kernel

/-- The bytes of the queries as R201 lays them out. -/
theorem test_query_bytes : queryOfBytes [0x01] = some .planQuery ∧ queryOfBytes [0x02, 0x01, 0x02] = some (.lineQuery 0x0102)
    ∧ queryOfBytes [0x03, 0x07] = some (.bandQuery 7) ∧ queryOfBytes [0x77] = some (.unknownQuery 0x77)
    ∧ queryOfBytes [0x02, 0x01] = none := by decide

theorem test_unknown_query : (did (base .stopped on) (.unknownQuery 0x77)).link = .answering (.range 0x77) [] := by decide +kernel

theorem test_answer_sent : (did (did running .planQuery) .answerSent).link = .idle := by decide +kernel

/-! ### Ports -/

/-- `running` with CP1 in a transaction state and a response to read there. -/
def porting (t : Transaction) : State :=
  { running with
    ports :=
      running.ports.set (.client 1)
        { buffer := List.replicate 3 ⟨1, .attach⟩
          responses := [{ kind := .attach, seq := 1, reply := plainReply .draining }], transaction := t } }

/-- `running` with CP1's buffer full. -/
def crowded (t : Transaction) : State :=
  { running with
    ports := running.ports.set (.client 1) { buffer := List.replicate 4 ⟨1, .attach⟩, responses := [], transaction := t } }

theorem test_select_fall : (did (porting .idle) (.selectFall (.client 1))).transactionOf (.client 1) = .command := by decide +kernel

theorem test_write_command : (did (porting .command) (.writeCommand (.client 1))).transactionOf (.client 1) = .header [] := by
  decide +kernel

theorem test_read_command : (did (porting .command) (.readCommand (.client 1))).transactionOf (.client 1)
      = .sending { kind := .attach, seq := 1, reply := plainReply .draining } true
    ∧ (did (porting .command) (.readCommand (.client 1))).transactionOf (.client 0) = .idle := by decide +kernel

theorem test_bad_command_byte :
    (did (porting .command) (.badCommandByte (.client 1) 0x55)).transactionOf (.client 1) = .ignoring
      ∧ (did (porting .command) (.badCommandByte (.client 1) 0x55)).alerts.ports.get (.client 1) = true := by decide +kernel

/-- ATTACH has no body, so a length of 1 is a framing error, and with length 0 it is decided at once after the header. -/
theorem test_header_framing :
    (did (porting (.header [])) (.headerFramingCheck (.client 1) 0x01 5 1)).transactionOf (.client 1) = .status .framing
      ∧ (did (porting (.header [])) (.headerFramingCheck (.client 1) 0x01 5 0)).ports.get (.client 1)
          = { buffer := List.replicate 3 ⟨1, .attach⟩ ++ [⟨5, .attach⟩],
              responses := [{ kind := .attach, seq := 1, reply := plainReply .draining }], transaction := .status .accepted } := by
  decide +kernel

/-- The fourth request is ACCEPTED and a fifth is answered FULL. -/
theorem test_request_decision :
    (did (porting (.body .renew 5 [])) (.requestDecision (.client 1) [0x01, 0x00])).ports.get (.client 1)
        = { buffer := List.replicate 3 ⟨1, .attach⟩ ++ [⟨5, .renew 256⟩],
            responses := [{ kind := .attach, seq := 1, reply := plainReply .draining }], transaction := .status .accepted }
      ∧ (did (crowded (.body .renew 5 [])) (.requestDecision (.client 1) [0x01, 0x00])).transactionOf (.client 1) = .status .full := by decide +kernel

/-- A body in two pieces, and the bytes of a header before its third: held until the last arrives. -/
theorem test_bytes_in_pieces :
    did (porting (.body .renew 5 [])) (.requestDecision (.client 1) [0x01]) = porting (.body .renew 5 [0x01])
      ∧ did (porting (.body .renew 5 [0x01])) (.requestDecision (.client 1) [0x00])
          = did (porting (.body .renew 5 [])) (.requestDecision (.client 1) [0x01, 0x00])
      ∧ did (porting (.header [0x05])) (.requestDecision (.client 1) [5]) = porting (.header [0x05, 5])
      ∧ did (porting (.header [0x05, 5])) (.headerFramingCheck (.client 1) 0x05 5 2) = porting (.body .renew 5 []) := by
  decide +kernel

theorem test_response_sent :
    (did (porting (.sending { kind := .attach, seq := 1, reply := plainReply .draining } true)) (.responseSent (.client 1))).ports.get
        (.client 1)
      = { buffer := List.replicate 3 ⟨1, .attach⟩, responses := [], transaction := .ignoring } := by decide +kernel

theorem test_select_rise : did (porting (.body .renew 5 [])) (.selectRise (.client 1)) = porting .idle := by decide +kernel

theorem test_status_byte_sent :
    did (porting (.status .full)) (.statusByteSent (.client 1)) = porting .ignoring := by decide +kernel

/-- The arbitration example of chapter 10: after CP1, CP2's full queue is passed over for CP3. -/
theorem test_arbitration :
    ({ State.reset with
        lastServed := 1
        ports :=
          { sup := PortState.reset, clients :=
              #v[{ PortState.reset with buffer := [⟨1, .attach⟩, ⟨2, .attach⟩] }, { PortState.reset with buffer := [⟨3, .attach⟩] },
                 { buffer := [⟨4, .attach⟩], transaction := .idle,
                   responses := List.replicate 4 { kind := .attach, seq := 0, reply := plainReply .ok } },
                 { PortState.reset with buffer := [⟨5, .attach⟩] }] } } : State).choice = some (.client 3, ⟨5, .attach⟩) := by decide +kernel

/-! ### Witnesses: for each statement with hypotheses, states and operands that meet them, clause by clause -/

/-- One client's record replaced. -/
def withRecord (s : State) (n : Client) (r : SessionRecord) : State := { s with sessions := s.sessions.set (.client n) r }

/-- A scan state replaced. -/
def scanning (s : State) (st : ScanState) : State := { s with scan := { s.scan with state := st } }

theorem witness_UnadmittedHappeningsChangeNothing :
    State.reset.pending = [] ∧ Instr.request (.start .sup 7) = some (.sup, ⟨7, .start⟩)
      ∧ State.reset.choice ≠ some (.sup, ⟨7, .start⟩) ∧ State.reset.commitsDue = [] ∧ State.reset.resolver = .idle
      ∧ (did State.reset (.resetN .low)).resetLow = true ∧ State.reset.link = .idle
      ∧ committing.pool.Pairwise (fun a b => a.slot ≠ b.slot) ∧ committing.countedRegion 1 = .retired false
      ∧ (∀ r ∈ committing.table[(0 : Slot)], committing.countedRegion 0
          = .lapsed { r with state := .lapsed, remaining := some 0, graceLeft := some 2 })
      ∧ committing.countedRegion 63 = .free := by decide +kernel

/-- A port in COMMAND takes no header, body, end or fall; header bytes that do not begin with those held; one byte too many. -/
theorem witness_UnadmittedHappeningsChangeNothing_ports :
    ((porting .command).ports.get (.client 1)).transaction = .command ∧ Transaction.command ≠ .idle
      ∧ ((porting (.header [0x05])).ports.get (.client 1)).transaction = .header [0x05]
      ∧ ¬ [0x05#8] <+: [0x06#8, 0x00#8, 0x02#8] ∧ 3 ≤ ([0x05#8] ++ [0x00#8, 0x02#8]).length
      ∧ ((porting (.body .renew 5 [1])).ports.get (.client 1)).transaction = .body .renew 5 [1]
      ∧ Kind.renew.bodyLength < ([1#8] ++ [2#8, 3#8]).length
      ∧ ((porting .idle).ports.get (.client 1)).transaction = .idle := by decide +kernel

/-- SP eligible; CP0 eligible first after CP3; CP3 eligible last after CP3; no port eligible; a commit waiting. -/
theorem witness_ArbiterServesSpThenRotatesClients :
    (asked State.reset .sup .start).Eligible .sup
      ∧ (¬ (asked State.reset (.client 0) .attach).Eligible .sup
          ∧ (asked State.reset (.client 0) .attach).Eligible (.client (State.reset.lastServed + 1 + 0)))
      ∧ (¬ (asked State.reset (.client 3) .attach).Eligible .sup
          ∧ (∀ j : Fin 4, j < 3 → ¬ (asked State.reset (.client 3) .attach).Eligible (.client (State.reset.lastServed + 1 + j)))
          ∧ (asked State.reset (.client 3) .attach).Eligible (.client (State.reset.lastServed + 1 + 3)))
      ∧ forSessions (fun p => ¬ State.reset.Eligible p) ∧ committing.commitsDue ≠ [] := by decide +kernel

theorem witness_RequestTakenGainsOneResponse :
    Instr.request (.walkNext (.client 3) 7) = some (.client 3, ⟨7, .walkNext⟩) ∧ Chosen running (.client 3) .walkNext
      ∧ ¬ ((⟨7, .walkNext⟩ : Request).call = .softReset ∧ (Session.client 3) = .sup) := by decide +kernel

/-- A supervisor-only kind from a client, the same from SP, and a client kind from a client. -/
theorem witness_SupervisorOnlyKindsDeniedToClients :
    Chosen running (.client 0) (.pin claim) ∧ Chosen running .sup (.pin claim) ∧ Chosen running (.client 0) .attach := by
  decide +kernel

theorem witness_AttachByClientState :
    Chosen (base .stopped off) (.client 3) .attach ∧ ((base .stopped off).sessions.get (.client 3)).state = .detached
      ∧ ((base .stopped on).sessions.get (.client 3)).state = .attached
      ∧ ((base .stopped (member .suspended .resume)).sessions.get (.client 3)).state = .suspended
      ∧ ((base .stopped (member .draining .drain)).sessions.get (.client 3)).state = .draining
      ∧ Chosen (base .stopped (member .draining .drain)) (.client 3) .attach := by decide +kernel

/-- DETACH in each state; EVICT of index 3 and of index 4. -/
theorem witness_DetachAndEvictDepart :
    Chosen (held .running on) (.client 0) .detach ∧ ((held .running on).sessions.get (.client 0)).state = .attached
      ∧ Chosen (base .running off) (.client 0) .detach ∧ ((base .running off).sessions.get (.client 0)).state = .detached
      ∧ Chosen (base .running (member .draining .drain)) (.client 0) .detach
      ∧ ((base .running (member .draining .drain)).sessions.get (.client 0)).state = .draining
      ∧ Chosen (held .running on) .sup (.evict 3) ∧ (3#8).toNat = (3 : Client).val
      ∧ ((held .running on).sessions.get (.client 3)).state = .attached
      ∧ Chosen (held .running on) .sup (.evict 4) ∧ 3 < (4#8).toNat := by decide +kernel

/-- The limits at and beyond their bounds; quotas that sum to 56 and to 57; a client that is not DETACHED. -/
theorem witness_SetLimitsInOrder :
    Chosen (base .stopped off) .sup (.setLimits 3 32 15 1) ∧ (3#8).toNat = (3 : Client).val
      ∧ ((3#8).toNat ≤ 3 ∧ (32#8).toNat ≤ 32 ∧ (15#8).toNat ≤ 15 ∧ 1 ≤ (1#8).toNat)
      ∧ ((List.finRange 4).map (fun m =>
          if m = 3 then 32 else ((base .stopped off).sessions.get (.client m)).quota)).sum = 56
      ∧ ((List.finRange 4).map (fun m =>
          if m = 3 then 32 else
            ((withRecord (base .stopped off) 0 { off with quota := 9 }).sessions.get (.client m)).quota)).sum = 57
      ∧ Chosen (withRecord (base .stopped off) 0 { off with quota := 9 }) .sup (.setLimits 3 32 15 1)
      ∧ Chosen (base .stopped off) .sup (.setLimits 4 32 15 1) ∧ ¬ (4#8).toNat ≤ 3
      ∧ Chosen (base .stopped off) .sup (.setLimits 3 32 15 0) ∧ ¬ 1 ≤ (0#8).toNat
      ∧ Chosen (base .stopped on) .sup (.setLimits 3 32 15 1)
      ∧ ((base .stopped on).sessions.get (.client 3)).state ≠ .detached := by decide +kernel

theorem witness_SuspendAndResumeStageOrCancel :
    Chosen (base .running on) .sup (.suspend 3) ∧ Chosen (base .running on) .sup (.resume 4) ∧ 3 < (4#8).toNat
      ∧ ((base .running on).sessions.get (.client 3)).pending = .noChange
      ∧ ((base .running (member .suspended .resume)).sessions.get (.client 3)).state = .suspended
      ∧ ((base .running (member .suspended .resume)).sessions.get (.client 3)).pending = .resume
      ∧ Chosen (base .running (member .suspended .resume)) .sup (.suspend 3)
      ∧ Chosen (base .running off) .sup (.suspend 0) ∧ ((base .running off).sessions.get (.client 0)).state = .detached
      ∧ ((base .running (member .draining .drain)).sessions.get (.client 0)).state = .draining := by decide +kernel

theorem witness_SessionRecordsAfterResets :
    (asked (held .stopped on) .sup .softReset).SessionsLegal ∧ Chosen (held .stopped on) .sup .softReset
      ∧ Chosen (held .stopped on) .sup .clearTable ∧ (asked (held .stopped on) .sup .clearTable).scan.state = .stopped := by
  decide +kernel

theorem witness_SessionRecordsAfterResets_steps (s : State) (q : Byte) :
    (∃ t, exec (.resetN .low) s = .next t) ∧ (∃ t, exec (.softReset .sup q) s = .next t)
      ∧ ∃ t, exec (.clearTable .sup q) s = .next t := ⟨⟨_, rfl⟩, ⟨_, rfl⟩, ⟨_, rfl⟩⟩

/-- A valid block and one with the greatest layer but one too many. -/
theorem witness_OpenFieldValidity :
    Chosen running (.client 1) (.openRegion claim) ∧ (running.sessions.get (.client 1)).state = .attached
      ∧ running.scan.width ≠ 0 ∧ running.scan.height ≠ 0 ∧ openValid claim = true
      ∧ openValid { claim with layer := 16 } = false := by decide +kernel

/-- First and last check of OPEN and PIN, and a check between. -/
theorem witness_OpenAndPinChecksInOrder :
    Chosen (full running) (.client 1) (.openRegion claim)
      ∧ firstFailure (openChecks 1 claim (full running)) = some .stageFull
      ∧ firstFailure (openChecks 1 claim (base .running off)) = some .notAttached
      ∧ firstFailure (openChecks 1 { claim with x0 := 15, x1 := 17, y0 := 7, y1 := 9 } running) = some .overlap
      ∧ firstFailure (openChecks 1 { claim with x1 := 65 } running) = some .outOfBounds
      ∧ Chosen (full running) .sup (.pin claim) ∧ firstFailure (pinChecks claim (full running)) = some .stageFull
      ∧ firstFailure (pinChecks claim State.reset) = some .notConfigured
      ∧ firstFailure (pinChecks { claim with rank := 3 } running) = some .rankInUse := by decide +kernel

theorem witness_OpenCreatesAStagedRegion :
    Chosen running (.client 1) (.openRegion claim) ∧ firstFailure (openChecks 1 claim running) = none
      ∧ running.table[(5 : Slot)] = none ∧ (∀ j : Slot, j < 5 → running.table[j].isSome = true)
      ∧ orderedMap (running.tagMaps.get (.client 1)) := by decide +kernel

theorem witness_PinCreatesAStagedRegion :
    Chosen running .sup (.pin claim) ∧ firstFailure (pinChecks claim running) = none
      ∧ running.table[(5 : Slot)] = none ∧ (∀ j : Slot, j < 5 → running.table[j].isSome = true)
      ∧ orderedMap (running.tagMaps.get .sup) := by decide +kernel

/-- AMEND: what every clause supposes, the first and the last check, and a check between; for a client and for SUP. -/
theorem witness_AmendChecksInOrder :
    Chosen (full running) (.client 0) (.amend (block 5 0x0008 0)) ∧ orderedMap ((full running).tagMaps.get (.client 0))
      ∧ named 5 0 ∈ (full running).tagMaps.get (.client 0) ∧ (full running).table[(0 : Slot)] = some live
      ∧ firstFailure (amendChecks (.client 0) (block 5 0x0008 0) 0 live (full running)) = some .stageFull
      ∧ firstFailure (amendChecks (.client 0) (block 5 0x0008 0) 0 live (held .running off)) = some .notAttached
      ∧ firstFailure (amendChecks (.client 0) { block 5 0x0001 0 with x0 := 15, x1 := 16, y0 := 7 } 0 live running)
          = some .overlap
      ∧ Chosen running .sup (.amend (block 9 0x0008 0)) ∧ named 9 4 ∈ running.tagMaps.get .sup
      ∧ running.table[(4 : Slot)] = some pinned
      ∧ firstFailure (amendChecks .sup (block 9 0x0008 0) 4 pinned running) = some .badRequest := by decide +kernel

/-- A LIVE region without an entry, a STAGED_NEW one with its NEW entry, and a pinned one. -/
theorem witness_AmendStagesOrMerges :
    Chosen running (.client 0) (.amend (block 5 0x00C8 0x01)) ∧ orderedMap (running.tagMaps.get (.client 0))
      ∧ named 5 0 ∈ running.tagMaps.get (.client 0) ∧ running.table[(0 : Slot)] = some live
      ∧ firstFailure (amendChecks (.client 0) (block 5 0x00C8 0x01) 0 live running) = none ∧ running.entryFor 0 = none
      ∧ Chosen running (.client 0) (.amend (block 8 0x0100 0x01)) ∧ named 8 3 ∈ running.tagMaps.get (.client 0)
      ∧ running.table[(3 : Slot)] = some (newRegion (.client 0) 8)
      ∧ firstFailure (amendChecks (.client 0) (block 8 0x0100 0x01) 3 (newRegion (.client 0) 8) running) = none
      ∧ (running.entryFor 3).isSome = true
      ∧ Chosen running .sup (.amend (block 9 0x0001 0x01)) ∧ running.table[(4 : Slot)] = some pinned
      ∧ firstFailure (amendChecks .sup (block 9 0x0001 0x01) 4 pinned running) = none := by decide +kernel

/-- Each region state; a LAPSED region with and without an entry, with room and without. -/
theorem witness_RenewByRegionState :
    Chosen running (.client 0) (.renew 5) ∧ (running.sessions.get (.client 0)).state = .attached
      ∧ orderedMap (running.tagMaps.get (.client 0))
      ∧ named 5 0 ∈ running.tagMaps.get (.client 0) ∧ running.table[(0 : Slot)] = some live
      ∧ named 6 1 ∈ running.tagMaps.get (.client 0) ∧ running.table[(1 : Slot)] = some lapsed
      ∧ named 7 2 ∈ running.tagMaps.get (.client 0) ∧ running.table[(2 : Slot)] = some retiring
      ∧ named 8 3 ∈ running.tagMaps.get (.client 0) ∧ running.table[(3 : Slot)] = some (newRegion (.client 0) 8)
      ∧ Chosen running (.client 0) (.renew 6) ∧ running.entryFor 1 = none ∧ running.pool.length < 32
      ∧ Chosen (full running) (.client 0) (.renew 6) ∧ (full running).entryFor 1 = none ∧ 32 ≤ (full running).pool.length
      ∧ (({ running with pool := [bare 1 .revive] } : State).entryFor 1).isSome = true := by decide +kernel

theorem witness_RenewAllRenewsEveryRegion :
    Chosen (full running) (.client 0) (.renew 0) ∧ ((full running).sessions.get (.client 0)).state = .attached
      ∧ (full running).pool.length ≤ 32
      ∧ (((full running).tagMaps.get (.client 0)).filterMap (fun e => e.slot)).Pairwise (fun a b => a ≠ b) := by decide +kernel

/-- RELEASE by state, with and without an entry and with a full pool, and UNPIN. -/
theorem witness_RemovalByRegionState :
    Chosen running (.client 0) (.release 8) ∧ Chosen running (.client 0) (.release 5) ∧ Chosen running (.client 0) (.release 6)
      ∧ Chosen running (.client 0) (.release 7) ∧ running.entryFor 0 = none ∧ running.pool.length < 32
      ∧ Chosen (full running) (.client 0) (.release 5) ∧ (full running).entryFor 0 = none
      ∧ (({ running with pool := [bare 0 .amend] } : State).entryFor 0).isSome = true
      ∧ Chosen { running with pool := [bare 0 .amend] } (.client 0) (.release 5)
      ∧ Chosen running .sup (.unpin 9) ∧ orderedMap (running.tagMaps.get .sup) ∧ named 9 4 ∈ running.tagMaps.get .sup
      ∧ running.table[(4 : Slot)] = some pinned ∧ running.entryFor 4 = none := by decide +kernel

theorem witness_RequestsRefusedBeforeTheRegion :
    Chosen (base .running off) (.client 0) (.amend claim) ∧ ((base .running off).sessions.get (.client 0)).state = .detached
      ∧ ((base .running (member .draining .drain)).sessions.get (.client 0)).state = .draining
      ∧ ((base .running (member .suspended .noChange)).sessions.get (.client 0)).state = .suspended
      ∧ Chosen (base .running (member .suspended .noChange)) (.client 0) (.lookup 1)
      ∧ Chosen running (.client 0) (.release 0) ∧ Chosen running (.client 0) (.renew 1)
      ∧ (∀ e ∈ running.tagMaps.get (.client 0), e.tag = 1 → e.slot = none)
      ∧ (asked running .sup .attach).SessionsLegal ∧ Chosen running .sup .attach ∧ Chosen running .sup .detach
      ∧ Chosen running .sup (.renew 0) ∧ Chosen running .sup (.release 9) ∧ Chosen running .sup (.openRegion claim)
      ∧ Chosen State.reset .sup (.openRegion claim) := by decide +kernel

/-- RENEW(0), PROBE and the walks in the refusing states; PROBE from SP without a panel; SP's tag 0 and a tag it does not have. -/
theorem witness_RequestsRefusedBeforeTheRegion_widened :
    Chosen (base .running off) (.client 0) (.renew 0) ∧ Chosen (base .running off) (.client 0) (.probe 1 2)
      ∧ Chosen (base .running (member .draining .drain)) (.client 0) (.walkStart 1)
      ∧ Chosen (base .running (member .draining .drain)) (.client 0) .walkNext
      ∧ Chosen (base .running (member .suspended .noChange)) (.client 0) (.renew 0)
      ∧ Chosen State.reset .sup (.probe 1 2) ∧ State.reset.scan.width = 0
      ∧ Chosen running .sup (.unpin 0) ∧ Chosen running .sup (.lookup 1) ∧ Chosen running .sup (.amend { claim with tag := 0 })
      ∧ (∀ e ∈ running.tagMaps.get .sup, e.tag = 1 → e.slot = none) := by decide +kernel

theorem witness_LookupReportsTheRegion :
    Chosen (held .stopped on) (.client 0) (.lookup 5) ∧ ((held .stopped on).sessions.get (.client 0)).state = .attached
      ∧ named 5 0 ∈ (held .stopped on).tagMaps.get (.client 0) ∧ (held .stopped on).table[(0 : Slot)] = some live := by
  decide +kernel

theorem witness_LookupReportsTheRegion_agrees : (asked (held .stopped on) (.client 0) (.lookup 5)).TableAgrees := by
  decide +kernel

/-- Slot 64 and slot 63, which is FREE, and the slot of a region. -/
theorem witness_LookupSlotReportsAnySlot :
    Chosen (held .stopped on) .sup (.lookupSlot 64) ∧ 63 < (64#8).toNat ∧ Chosen (held .stopped on) .sup (.lookupSlot 63)
      ∧ (63#8).toNat = (63 : Slot).val ∧ (held .stopped on).table[(63 : Slot)] = none
      ∧ Chosen (held .stopped on) .sup (.lookupSlot 4) ∧ (held .stopped on).table[(4 : Slot)] = some pinned
      ∧ named 9 4 ∈ (held .stopped on).tagMaps.get pinned.owner := by decide +kernel

theorem witness_LookupSlotReportsAnySlot_agrees : (asked (held .stopped on) .sup (.lookupSlot 4)).TableAgrees := by
  decide +kernel

/-- The commit statements: a commit waits and no two entries name one slot. -/
theorem witness_CommitActsSlotBySlot :
    committing.commitsDue = 10 :: [] ∧ committing.pool.Pairwise (fun a b => a.slot ≠ b.slot) := by decide +kernel

theorem witness_CommitSettlesSessionsAndStartsResolve :
    committing.commitsDue = 10 :: [] ∧ committing.pool.Pairwise (fun a b => a.slot ≠ b.slot) ∧ committing.pool ≠ [] := by
  decide +kernel

theorem witness_CommitNotifiesOwnersAndSupervisor :
    committing.commitsDue = 10 :: [] ∧ committing.pool.Pairwise (fun a b => a.slot ≠ b.slot) := by decide +kernel

/-- A LIVE region at remaining 1, with grace 2 and with grace 0, and a LAPSED one at grace_left 1. -/
theorem witness_LapseAndRetireTakeTheCommit :
    committing.commitsDue = 10 :: [] ∧ committing.table[(0 : Slot)] = some live ∧ live.owner = .client 0
      ∧ (committing.sessions.get (.client 0)).state = .attached
      ∧ (committing.sessions.get (.client 0)).pending = .noChange
      ∧ committing.pool.Pairwise (fun a b => a.slot ≠ b.slot) ∧ committing.entryFor 0 = none
      ∧ named 5 0 ∈ committing.tagMaps.get (.client 0) ∧ live.state = .live ∧ live.remaining = some 1
      ∧ committing.scan.grace ≠ 0 ∧ ({ committing with scan := { committing.scan with grace := 0 } } : State).scan.grace = 0
      ∧ committing.table[(1 : Slot)] = some lapsed ∧ committing.entryFor 1 = none
      ∧ named 6 1 ∈ committing.tagMaps.get (.client 0) ∧ lapsed.state = .lapsed ∧ lapsed.graceLeft = some 1 := by
  decide +kernel

/-- A waiting commit that lapses slot 0 with an AMEND entry of no lease, and with its owner's RESUME; that retires it at grace 0;
that retires slot 1 at the end of its grace. -/
theorem witness_LapseAndRetireTakeTheCommit_counted :
    let amending : State := { committing with pool := [bare 0 .amend] }
    let resuming : State := withRecord committing 0 (member .suspended .resume)
    let graceless : State := { committing with scan := { committing.scan with grace := 0 } }
    let gone : Region := { live with state := .lapsed, remaining := some 0, graceLeft := some 2 }
    amending.commitsDue = 10 :: [] ∧ amending.pool.Pairwise (fun a b => a.slot ≠ b.slot)
      ∧ amending.countedRegion 0 = .lapsed { gone with awaiting := true } ∧ resuming.commitsDue = 10 :: []
      ∧ resuming.pool.Pairwise (fun a b => a.slot ≠ b.slot) ∧ resuming.countedRegion 0 = .lapsed gone
      ∧ graceless.commitsDue = 10 :: [] ∧ graceless.countedRegion 0 = .retired true
      ∧ committing.countedRegion 1 = .retired false := by decide +kernel

theorem witness_ForceCommitCountsNoLease :
    Chosen (held .stopped on) .sup .forceCommit ∧ (held .stopped on).scan.state = .stopped
      ∧ (held .stopped on).pool.Pairwise (fun a b => a.slot ≠ b.slot)
      ∧ Chosen (held .hold on) .sup .forceCommit ∧ (held .hold on).scan.state ≠ .stopped := by decide +kernel

/-- A resolve whose plan is FULL. -/
theorem witness_CompletionBuildsTheExactPlan :
    ({ running with resolver := .resolving job } : State).resolver = .resolving job ∧ job.Sound
      ∧ (job.plan).status = .full := by decide +kernel

/-- The content of every candidate of `tall`. -/
def stripe : Content := { kind := .solid, owner := some (.client 0), slot := none, stream := none, colour := some 1 }

/-- A resolve of 65 stripes in a panel one pixel wide and 131 high, whose full plan would hold 131 bands. -/
def tall : ResolveJob :=
  { epoch := 9, width := 1, height := 131, background := 0
    candidates :=
      (List.range 65).map (fun i => { rect := ⟨0, 2 * i + 1, 1, 2 * i + 2⟩, level := 1, pinned := false, content := stripe }) }

/-- That full plan. -/
def tallPlan : Plan :=
  { epoch := 9, status := .full, width := 1, height := 131
    bands :=
      (List.range 131).map (fun i =>
        { y0 := i, y1 := i + 1
          spans := [{ x0 := 0, x1 := 1, content := if i % 2 = 1 then stripe else backgroundContent 0 }] }) }

theorem witness_CompletionBuildsTheExactPlan_reduced :
    ({ running with resolver := .resolving tall } : State).resolver = .resolving tall ∧ tall.Sound ∧ tall.plan.status = .reduced
      ∧ tallPlan.width = tall.width ∧ tallPlan.height = tall.height ∧ tallPlan.Tiles ∧ tallPlan.Maximal := by
  exact ⟨rfl, by decide +kernel, by decide +kernel, rfl, rfl, by decide +kernel, by decide +kernel⟩

theorem witness_CompletionBuildsTheExactPlan_reduced_levels :
    ∀ c ∈ tall.candidates, ∀ d ∈ tall.candidates, c.level = d.level → c.content = d.content := by
  intro c hc d hd _
  obtain ⟨i, -, rfl⟩ := List.mem_map.1 hc
  obtain ⟨j, -, rfl⟩ := List.mem_map.1 hd
  rfl

theorem witness_CompletionBuildsTheExactPlan_reduced_describes : tallPlan.Describes tall.candidates tall.background := by
  intro b hb sp hs x y h1 h2 h3 h4
  obtain ⟨i, hi, rfl⟩ := List.mem_map.1 hb
  simp only [List.mem_singleton] at hs
  subst hs
  simp only at h1 h2 h3 h4 ⊢
  have hi := List.mem_range.1 hi
  obtain rfl : y = i := by omega
  obtain rfl : x = 0 := by omega
  by_cases h : y % 2 = 1
  · left
    refine ⟨{ rect := ⟨0, 2 * (y / 2) + 1, 1, 2 * (y / 2) + 2⟩, level := 1, pinned := false, content := stripe },
      List.mem_map.2 ⟨y / 2, List.mem_range.2 (by omega), rfl⟩, ?_, ?_, if_pos h⟩
    · simp only [Candidate.Holds]; omega
    · intro e he _
      obtain ⟨j, -, rfl⟩ := List.mem_map.1 he
      exact Nat.le_refl 1
  · right
    refine ⟨?_, if_neg h⟩
    intro d hd
    obtain ⟨j, -, rfl⟩ := List.mem_map.1 hd
    simp only [Candidate.Holds]; omega

theorem witness_VblankRaisesTheFrame :
    running.resetLow = false ∧ running.scan.state ≠ .stopped ∧ (held .stopped on).resetLow = false
      ∧ (held .stopped on).scan.state = .stopped ∧ (scanning running .hold).scan.state = .hold := by decide +kernel

/-- STOPPED; VBLANK expected; FSTART expected over each Resolver state. -/
theorem witness_FstartByScanStateAndResolver :
    (held .stopped on).scan.state = .stopped ∧ (held .stopped on).resetLow = false
      ∧ running.resetLow = false ∧ running.scan.state ≠ .stopped ∧ running.scan.expect = .vblank
      ∧ swapping.resetLow = false ∧ swapping.scan.state ≠ .stopped ∧ swapping.scan.expect = .fstart
      ∧ swapping.resolver = .ready plan ∧ ({ swapping with resolver := .idle } : State).resolver = .idle
      ∧ ({ swapping with resolver := .resolving job } : State).resolver = .resolving job ∧ swapping.commitsDue = []
      ∧ ({ swapping with commitsDue := [9] } : State).commitsDue ≠ [] ∧ swapping.scan.state = .priming
      ∧ running.scan.state = .running ∧ running.commitsDue = [] := by decide +kernel

theorem witness_SwapInstallsTheReadyPlan :
    swapping.resetLow = false ∧ swapping.scan.state ≠ .stopped ∧ swapping.scan.expect = .fstart
      ∧ swapping.resolver = .ready plan ∧ swapping.commitsDue = [] := by decide +kernel

/-- The last pixel and the first beyond it, with and without a front plan; a span of the requester's. -/
theorem witness_ProbeReportsThePixel :
    Chosen running (.client 0) (.probe 63 47) ∧ (running.sessions.get (.client 0)).state = .attached
      ∧ running.scan.height ≠ 0 ∧ running.scan.width ≠ 0 ∧ (63#16).toNat < running.scan.width
      ∧ (47#16).toNat < running.scan.height ∧ running.front = some plan ∧ plan.Tiles
      ∧ plan.width = running.scan.width ∧ plan.height = running.scan.height
      ∧ Chosen running (.client 0) (.probe 64 47) ∧ running.scan.width ≤ (64#16).toNat
      ∧ Chosen running (.client 0) (.probe 0 0) ∧ (held .running on).front = none := by decide +kernel

theorem witness_StartHoldResumeAndStop :
    Chosen (base .stopped on) .sup .start ∧ (base .stopped on).scan.state = .stopped ∧ (base .stopped on).scan.width ≠ 0
      ∧ (base .stopped on).scan.height ≠ 0 ∧ Chosen State.reset .sup .start ∧ State.reset.scan.width = 0
      ∧ Chosen running .sup .hold ∧ running.scan.state = .running
      ∧ Chosen (scanning running .hold) .sup .resumeScan ∧ (scanning running .hold).scan.state = .hold
      ∧ Chosen running .sup .stop := by decide +kernel

theorem witness_ScanRequestsRefusedByState :
    Chosen running .sup .start ∧ running.scan.state ∉ [ScanState.stopped] ∧ Chosen (base .stopped on) .sup .start
      ∧ (base .stopped on).scan.state ∈ [ScanState.stopped] ∧ Chosen running .sup .clearTable
      ∧ running.scan.state ∉ [ScanState.stopped, .hold] ∧ Chosen (scanning running .hold) .sup .clearTable
      ∧ Chosen running .sup (.configure 16 16 0 0) ∧ Chosen running .sup .forceCommit ∧ Chosen running .sup .resumeScan
      ∧ Chosen (base .stopped on) .sup .hold ∧ Chosen running .sup .stop ∧ Chosen running .sup .softReset := by decide +kernel

/-- The bounds of the panel, one beyond them, and slot 4's rectangle at and beyond the new width. -/
theorem witness_ConfigureWritesThePanel :
    Chosen (held .stopped on) .sup (.configure 64 40 0 15) ∧ (held .stopped on).scan.state = .stopped
      ∧ (16 ≤ (64#16).toNat ∧ (64#16).toNat ≤ 4096 ∧ 16 ≤ (40#16).toNat ∧ (40#16).toNat ≤ 4096 ∧ (15#8).toNat ≤ 15)
      ∧ (held .stopped on).geometryConflict 64 40 = none
      ∧ Chosen (held .stopped on) .sup (.configure 63 40 0 15) ∧ (held .stopped on).table[(4 : Slot)] = some pinned
      ∧ pinned.rect = some ⟨56, 0, 64, 8⟩ ∧ (63#16).toNat < 64 ∧ (held .stopped on).geometryConflict 63 40 = some 4
      ∧ Chosen (held .stopped on) .sup (.configure 15 40 0 15) ∧ ¬ 16 ≤ (15#16).toNat := by decide +kernel

theorem witness_ClearTableEmptiesTheTable :
    Chosen (held .stopped on) .sup .clearTable ∧ (held .stopped on).scan.state = .stopped
      ∧ Chosen (scanning running .hold) .sup .clearTable ∧ (scanning running .hold).scan.state = .hold := by decide +kernel

/-- A port that reads and ports that do not. -/
theorem witness_SoftResetBlockByBlock :
    Chosen (porting .idle) .sup .softReset
      ∧ ((porting (.sending { kind := .attach, seq := 1, reply := plainReply .draining } true)).ports.get (.client 1)).transaction
          = .sending { kind := .attach, seq := 1, reply := plainReply .draining } true
      ∧ Chosen (porting (.sending { kind := .attach, seq := 1, reply := plainReply .draining } true)) .sup .softReset := by
  decide +kernel

theorem witness_ScanControlAfterResetsAndRequests :
    Chosen running .sup .softReset ∧ Chosen (base .stopped on) .sup .start ∧ (base .stopped on).scan.state = .stopped
      ∧ (base .stopped on).scan.width ≠ 0 ∧ (base .stopped on).scan.height ≠ 0 ∧ Chosen running .sup .stop
      ∧ Chosen (base .stopped on) .sup .clearTable := by decide +kernel

theorem witness_ScanControlAfterResetsAndRequests_steps (s : State) (q : Byte) :
    (∃ t, exec (.resetN .low) s = .next t) ∧ (∃ t, exec (.softReset .sup q) s = .next t)
      ∧ (∃ t, exec (.start .sup q) s = .next t) ∧ (∃ t, exec (.stop .sup q) s = .next t)
      ∧ ∃ t, exec (.clearTable .sup q) s = .next t := ⟨⟨_, rfl⟩, ⟨_, rfl⟩, ⟨_, rfl⟩, ⟨_, rfl⟩, ⟨_, rfl⟩⟩

theorem witness_ReadStatusReportsThePart :
    Chosen running .sup .readStatus ∧ (asked running .sup .readStatus).SessionsLegal := by decide +kernel

theorem witness_FetchNoticesDeliversAndClears :
    Chosen noticed (.client 0) .fetchNotices ∧ orderedMap (noticed.tagMaps.get (.client 0))
      ∧ (noticed.sessions.get (.client 0)).state ≠ .detached
      ∧ Chosen (base .running off) (.client 0) .fetchNotices ∧ orderedMap ((base .running off).tagMaps.get (.client 0))
      ∧ ((base .running off).sessions.get (.client 0)).state = .detached ∧ Chosen alerted .sup .fetchNotices
      ∧ orderedMap (alerted.tagMaps.get .sup) := by decide +kernel

/-- Both requests; masks with bit 7 clear and set. -/
theorem witness_AlertRequestsDeliverAndMask :
    Chosen alerted .sup .fetchAlerts ∧ Chosen alerted .sup (.setAlertMask 0x7F) ∧ (0x7F#8).getLsbD 7 = false
      ∧ Chosen alerted .sup (.setAlertMask 0x80) ∧ (0x80#8).getLsbD 7 = true := by decide +kernel

/-- A record with a cursor at key 5. -/
def walking : SessionRecord :=
  { on with cursor := some { key := 5, filter := { stagedNew := true, live := true, lapsed := true, retiring := true }
                             startFrame := 8, changed := true } }

/-- WALK_START with filter bytes 0, 15 and 16; WALK_NEXT with and without a cursor; a client and SUP. -/
theorem witness_WalksReportInKeyOrder :
    Chosen running (.client 0) (.walkStart 15) ∧ (running.sessions.get (.client 0)).state = .attached ∧ (15#8 ≠ 0)
      ∧ (15#8).toNat ≤ 15 ∧ Chosen running .sup (.walkStart 16) ∧ 15 < (16#8).toNat ∧ Chosen running .sup (.walkStart 0)
      ∧ Chosen running (.client 0) .walkNext ∧ (running.sessions.get (.client 0)).cursor = none
      ∧ Chosen (withRecord running 0 walking) (.client 0) .walkNext
      ∧ ((withRecord running 0 walking).sessions.get (.client 0)).cursor ≠ none := by decide +kernel

/-- Line 47 and line 48 of a plan 48 high, no plan, and the code 04h. -/
theorem witness_PlanLineAndUnknownQueries :
    running.resetLow = false ∧ running.link = .idle ∧ running.front = some plan ∧ plan.Tiles
      ∧ (47#16).toNat < plan.height ∧ plan.height ≤ (48#16).toNat ∧ (base .stopped on).resetLow = false
      ∧ (base .stopped on).link = .idle ∧ (base .stopped on).front = none
      ∧ (0x04#8 ≠ 0x01#8 ∧ 0x04#8 ≠ 0x02#8 ∧ 0x04#8 ≠ 0x03#8) := by decide +kernel

/-- Band 1 of two and band 2, and no plan. -/
theorem witness_BandQueryAnswersItsIndex :
    running.resetLow = false ∧ running.link = .idle ∧ running.front = some plan ∧ plan.bands.length ≤ (2#8).toNat
      ∧ (plan.bands[(1#8).toNat]?).isSome = true ∧ (base .stopped on).front = none ∧ (base .stopped on).link = .idle := by
  decide +kernel

theorem witness_AnswerInProgressIsFixed :
    (did running .planQuery).resetLow = false
      ∧ (did running .planQuery).link = .answering (.plan 9 .full 2 64 48) []
      ∧ (did (did running .planQuery) .answerSent).link ≠ (did running .planQuery).link
      ∧ queryOfBytes [0x02, 0x01, 0x00] = some (.lineQuery 256) := by decide +kernel

/-- A buffer with room and a full one; a request with a body and one without, whose pieces may be empty but for the last: nothing
held, something held, and nothing received. -/
theorem witness_WrittenRequestReachesTheBuffer :
    (porting .idle).resetLow = false ∧ ((porting .idle).ports.get (.client 1)).transaction = .idle
      ∧ ((porting .idle).ports.get (.client 1)).buffer.length < 4
      ∧ ((crowded .idle).ports.get (.client 1)).transaction = .idle ∧ ((crowded .idle).ports.get (.client 1)).buffer.length = 4
      ∧ (⟨5, .attach⟩ : Request).bytes = [0x01, 5, 0] ∧ (⟨5, .renew 256⟩ : Request).bytes = [0x05, 5, 2] ++ [0x01, 0x00]
      ∧ [0x05#8] ++ [5#8] ++ [2#8] = [0x05#8, 5#8, 2#8] ∧ [] ++ [0x01#8] ++ [0x00#8] = [0x01#8, 0x00#8]
      ∧ [0x01#8] ++ [] ++ [0x00#8] = [0x01#8, 0x00#8] := by decide +kernel

/-- A kind the table lists and one it does not; a body of the kind's length and one of another. -/
theorem witness_RequestBytesRoundTrip :
    callOfBytes .renew [0x00, 0x01] = some (.renew 1) ∧ callOfBytes .renew [0x00] = none
      ∧ [0x00#8].length ≠ Kind.renew.bodyLength ∧ kindOfCode 0x05#8 = some .renew := by decide

/-- ATTACH with a length of 1 and the unlisted kind FFh; a command byte 00h; a read with and without a response; the ends of a
response and of a status byte. -/
theorem witness_FramingAndReads :
    (porting (.header [])).resetLow = false ∧ ((porting (.header [])).ports.get (.client 1)).transaction = .header []
      ∧ [] <+: [0x01#8, 5#8, 1#8]
      ∧ kindOfCode 0xFF#8 = none ∧ Kind.attach.bodyLength ≠ (1#8).toNat
      ∧ ((porting .command).ports.get (.client 1)).transaction = .command ∧ (0x00#8 ≠ 0x01#8 ∧ 0x00#8 ≠ 0x02#8)
      ∧ ((porting .command).ports.get (.client 1)).responses
          = { kind := .attach, seq := 1, reply := plainReply .draining } :: []
      ∧ ((did (running) (.selectFall (.client 2))).ports.get (.client 2)).transaction = .command
      ∧ ((did (running) (.selectFall (.client 2))).ports.get (.client 2)).responses = []
      ∧ ((porting (.sending { kind := .attach, seq := 1, reply := plainReply .draining } true)).ports.get (.client 1)).transaction
          = .sending { kind := .attach, seq := 1, reply := plainReply .draining } true
      ∧ ((porting (.status .full)).ports.get (.client 1)).transaction = .status .full := by decide +kernel

theorem witness_FramingAndReads_kinds : ∀ k : Kind, k.code = 0x01#8 → k.bodyLength ≠ (1#8).toNat := by
  intro k
  cases k <;> decide

theorem witness_SyncExpectationFollowsItsRule (c : Instr) (s : State) : ∃ t, exec c s = .next t := by
  cases c <;> exact ⟨_, rfl⟩

theorem witness_FrontPlanChangesOnlyAsStated :
    exec .fstart swapping = .next (did swapping .fstart) ∧ (did swapping .fstart).front ≠ swapping.front :=
  ⟨rfl, by decide +kernel⟩

theorem witness_ClientRequestsTouchOnlyTheirOwn :
    Instr.request (.detach (.client 0) 7) = some (.client 0, ⟨7, .detach⟩)
      ∧ running.table[(4 : Slot)] = some pinned ∧ pinned.owner ≠ .client 0 := by decide +kernel

theorem witness_ClientRequestsTouchOnlyTheirOwn_agrees :
    running.TableAgrees ∧ ∃ t, exec (.detach (.client 0) 7) running = .next t := ⟨by decide +kernel, _, rfl⟩

/-- `held` in STOPPED with a commandless queue but for one command. -/
def queued : State := { held .stopped on with pending := [.vblank] }

theorem witness_StepKeepsPortsBounded : queued.PortsBounded ∧ step queued = .next (held .stopped on) :=
  ⟨by decide +kernel, rfl⟩

theorem witness_StepKeepsSessionsLegal : queued.SessionsLegal := by decide +kernel

theorem witness_StepKeepsScanLegal : queued.ScanLegal := by decide +kernel

theorem witness_StepKeepsTableAgrees : queued.TableAgrees := by decide +kernel

/-- The whole invariant holds of `held` in STOPPED, and of `running`, whose front plan is tiled, maximal and within the limits. -/
theorem witness_StepKeepsThePartConsistent : queued.Consistent ∧ running.Consistent := by
  refine ⟨⟨by decide +kernel, by decide +kernel, by decide +kernel, ?_⟩, ⟨by decide +kernel, by decide +kernel, by decide +kernel, ?_⟩⟩
  · exact ⟨trivial, by decide +kernel, by decide +kernel⟩
  · exact ⟨trivial, by decide +kernel, by decide +kernel⟩

/-- Two plans of different epochs and one picture. -/
theorem witness_PlanIsDeterminedByItsPixels :
    ({ plan with epoch := 10 } : Plan).Tiles ∧ plan.Tiles ∧ ({ plan with epoch := 10 } : Plan).Maximal ∧ plan.Maximal
      ∧ ∀ x y : Nat, ({ plan with epoch := 10 } : Plan).contentAt x y = plan.contentAt x y :=
  ⟨by decide +kernel, by decide +kernel, by decide +kernel, by decide +kernel, fun _ _ => rfl⟩

end Sys2Proof.Tests
end

section
/-! PROOFS. The field-validity step of OPEN (R52): the model's `openValid` read as the rule's list, and the one place where a
client's OPEN can be answered BAD_REQUEST. -/

namespace Sys2Proof.Machine

/-! ### What an answered state shows of its reply -/

/-- The reply of a request stands last in its port's queue, so the state it leaves fixes it. -/
theorem State.reply_eq_of_answered_eq {s t : State} {p : Port} {r : Request} {y z : Reply}
    (h : s.answered p r y = t.answered p r z) : y = z := by
  have hq := congrArg (fun u : State => (u.ports.get p).responses.getLast?) h
  simpa [State.answered] using hq

/-- A refused request answers the code it is refused with. -/
@[simp] theorem refuse_code (s : State) (c : ResultCode) : (refuse s c).2.code = c := rfl

/-- A request refused for want of pool space answers STAGE_FULL. -/
@[simp] theorem refuseFull_code (s : State) : (refuseFull s).2.code = .stageFull := rfl

/-- An accepted request answers OK. -/
@[simp] theorem accept_code (s : State) (b : Body) : (accept s b).2.code = .ok := rfl

/-! ### The checks before and at the field-validity step -/

/-- No client request is refused for its session's state while the session is ATTACHED (R27). -/
theorem State.sessionRefusal_of_attached {s : State} {x : Session} (a : Access)
    (h : (s.sessions.get x).state = .attached) : s.sessionRefusal x a = none := by
  cases x with
  | sup => rfl
  | client n => cases a <;> simp [State.sessionRefusal, Access.refusal, h]

/-- The panel is configured when neither of its sides is 0 (R141). -/
theorem State.configured_iff {s : State} : s.configured = true ↔ s.scan.width ≠ 0 ∧ s.scan.height ≠ 0 := by
  simp [State.configured]

/-- The list of R52, by the fill byte: the blocks that the field-validity step refuses. -/
theorem openValid_eq_false_iff (b : FieldBlock) :
    openValid b = false ↔
      b.tag = 0 ∨ 15 < b.layer.toNat ∨ b.lease = 0 ∨ (b.fill ≠ 0x00#8 ∧ b.fill ≠ 0x01#8)
        ∨ (b.fill = 0x01#8 ∧ b.mask.getLsbD 6 = false) ∨ (b.fill = 0x00#8 ∧ b.mask.getLsbD 6 = true)
        ∨ b.mask.getLsbD 5 = true := by
  have hlayer : decide (b.layer.toNat ≤ Config.layerMax) = !decide (15 < b.layer.toNat) := by
    rw [← decide_not, decide_eq_decide, Nat.not_lt]
    rfl
  -- the model tests the stream's bit before the fill, the rule names it last
  have hstream (rest : Prop) : (b.mask[5] = true ∨ rest) ↔ (rest ∨ b.mask[5] = true) := or_comm
  by_cases hsource : b.fill = 0x00#8
  · simp [openValid, bitSet, hlayer, fillOf, hsource, -Bool.and_eq_false_imp, Bool.and_eq_false_iff, or_assoc, hstream]
  · by_cases hsolid : b.fill = 0x01#8
    · simp [openValid, bitSet, hlayer, fillOf, hsolid, -Bool.and_eq_false_imp, Bool.and_eq_false_iff, or_assoc, hstream]
    · simp [openValid, fillOf, hsource, hsolid]

section
variable {n : Client} {b : FieldBlock} {s : State}

/-- Past the session and the geometry step, an invalid block is refused BAD_REQUEST (R51). -/
theorem openClient_of_invalid (hs : s.sessionRefusal (.client n) .change = none) (hc : s.configured = true)
    (hv : openValid b = false) : openClient n b s = refuse s .badRequest := by
  simp [openClient, hs, hc, hv]

/-- Past the session and the geometry step, no check but the field-validity step answers BAD_REQUEST (R51). -/
theorem openClient_code_of_valid (hs : s.sessionRefusal (.client n) .change = none) (hc : s.configured = true)
    (hv : openValid b = true) : (openClient n b s).2.code ≠ .badRequest := by
  simp only [openClient, hs, hc, hv, Bool.not_true, Bool.false_eq_true, if_false]
  cases s.lowestFree <;> split_ifs <;> simp

end

/-- Settles O11: an invalid block is refused at the field-validity step, and a valid one is answered with another code,
which the answered state shows. -/
theorem openFieldValidity : Obligations.OpenFieldValidity := by
  intro n q b s hchoice hattached hwidth hheight
  have hs := State.sessionRefusal_of_attached .change hattached
  have hc := State.configured_iff.mpr ⟨hwidth, hheight⟩
  have hexec : exec (.openRegion (.client n) q b) s =
      .next ((openClient n b s).1.answered (.client n) ⟨q, .openRegion b⟩ (openClient n b s).2) :=
    exec_of_choice rfl hchoice (.inl rfl) (by simp)
  rw [← openValid_eq_false_iff, hexec]
  constructor
  · intro hv
    rw [openClient_of_invalid hs hc hv]
    rfl
  · intro h
    by_contra hv
    have hreply := State.reply_eq_of_answered_eq (Host.Outcome.next.inj h)
    exact openClient_code_of_valid hs hc (by simpa using hv) (by rw [hreply]; rfl)

end Sys2Proof.Machine
end

section
/-! PROOFS. LOOKUP_SLOT (R68): where table and Tag Maps agree, the entry that names a slot is the only one, so the report's
notices are that entry's. -/

namespace Sys2Proof.Machine

/-! ### The entry that names a slot -/

/-- What holds of the sessions one by one holds of any. -/
theorem forSessions.get {P : Session → Prop} (h : forSessions P) : ∀ x, P x
  | .client n => h.1 n
  | .sup => h.2

/-- A Tag Map in tag order has one entry for each tag (R19). -/
theorem entry_eq_of_tag_eq {m : List TagEntry} (h : orderedMap m) {e f : TagEntry} (he : e ∈ m) (hf : f ∈ m)
    (ht : e.tag = f.tag) : e = f := by
  have hnodup : (m.map TagEntry.tag).Nodup := List.pairwise_map.mpr (h.1.imp (fun hlt heq => by simp [heq] at hlt))
  exact List.inj_on_of_nodup_map hnodup he hf ht

/-- An entry that names a slot has the tag of the region there (R21). -/
theorem State.tag_of_entryNames {s : State} {x : Session} {e : TagEntry} {k : Slot} {g : Region}
    (h : s.entryNames x e = true) (hslot : e.slot = some k) (hg : s.table[k] = some g) : e.tag = g.tag := by
  obtain ⟨-, htag⟩ : g.owner = x ∧ g.tag = e.tag := by simpa [State.entryNames, hslot, hg] using h
  exact htag.symm

/-- Where table and Tag Maps agree, the notices reported for a region are those of the entry that names its slot. -/
theorem State.noticesAt_eq {s : State} (hs : s.TableAgrees) {x : Session} {k : Slot} {g : Region} {e : TagEntry}
    (hg : s.table[k] = some g) (he : e ∈ s.tagMaps.get x) (hslot : e.slot = some k) : s.noticesAt x k = e.notices := by
  obtain ⟨-, hordered, hnames, -⟩ := hs
  unfold State.noticesAt
  cases hfind : (s.tagMaps.get x).find? (fun f => f.slot == some k) with
  | none => simpa [hslot] using List.find?_eq_none.mp hfind e he
  | some f =>
    have hf := List.mem_of_find?_eq_some hfind
    have hfslot : f.slot = some k := by simpa using List.find?_some hfind
    have htag : f.tag = e.tag :=
      (State.tag_of_entryNames (hnames.get x f hf) hfslot hg).trans
        (State.tag_of_entryNames (hnames.get x e he) hslot hg).symm
    rw [entry_eq_of_tag_eq (hordered.get x) hf he htag]

/-! ### The rule of LOOKUP_SLOT -/

theorem lookupSlotRequest_beyond {slot : Byte} (s : State) (h : 63 < slot.toNat) :
    lookupSlotRequest slot s = refuse s .badRequest := dif_neg (by omega)

theorem lookupSlotRequest_slot {slot : Byte} {k : Slot} (s : State) (h : slot.toNat = k.val) :
    lookupSlotRequest slot s = acceptWith s .empty [.region (s.regionReport k)] := by
  simp [lookupSlotRequest, h]

/-- Settles O22: the rule reads the slot's report off the state as it stands, and the notices in it are those of the one entry
that names the slot. -/
theorem lookupSlotReportsAnySlot : Obligations.LookupSlotReportsAnySlot := by
  intro q slot s r hagrees hchoice
  have hexec : exec (.lookupSlot .sup q slot) s =
      .next ((lookupSlotRequest slot s).1.answered .sup r (lookupSlotRequest slot s).2) :=
    exec_of_choice rfl hchoice (.inr rfl) (by simp [r])
  rw [hexec]
  refine ⟨fun hbeyond => ?_, fun k hk => ⟨fun hfree => ?_, fun g hg e he hslot => ?_⟩⟩
  · rw [lookupSlotRequest_beyond s hbeyond]
    rfl
  · simp [lookupSlotRequest_slot s hk, acceptWith, State.regionReport, hfree]
  · have hg : s.table[k] = some g := hg
    have hnotices := State.noticesAt_eq hagrees hg he hslot
    simp [lookupSlotRequest_slot s hk, acceptWith, State.regionReport, hg, hnotices, State.entryFor]

end Sys2Proof.Machine
end

section
/-! PROOFS. BAND (R137): a query that arrives at an IDLE interface fixes its answer, and the answer to BAND is what the front
plan's band list holds at the index. -/

namespace Sys2Proof.Machine

/-! ### A query taken by an IDLE interface -/

/-- An IDLE interface takes a query whole, with the answer it forms, and owes no LINK_BUSY (R133). -/
theorem State.query_of_idle {s : State} (code : Byte) (form : State → Answer) (hreset : s.resetLow = false)
    (hidle : s.link = .idle) : s.query code form = { s with link := .answering (form s) [] } := by
  simp [State.query, hreset, hidle]

/-! ### The answer to a band query -/

theorem Plan.bandAnswer_of_some {p : Plan} {i : Nat} {b : Band} (code : Byte) (h : p.bands[i]? = some b) :
    p.bandAnswer code i = .band code p.epoch i b := by
  simp [Plan.bandAnswer, h]

/-- No band has an index at or above the band count. -/
theorem Plan.bandAnswer_of_le {p : Plan} {i : Nat} (code : Byte) (h : p.bands.length ≤ i) :
    p.bandAnswer code i = .range code := by
  simp [Plan.bandAnswer, List.getElem?_eq_none h]

theorem State.bandQueryAnswer_of_none {s : State} (i : Nat) (h : s.front = none) :
    s.bandQueryAnswer i = .noPlan bandCode := by
  simp [State.bandQueryAnswer, h]

theorem State.bandQueryAnswer_of_some {s : State} {p : Plan} (i : Nat) (h : s.front = some p) :
    s.bandQueryAnswer i = p.bandAnswer bandCode i := by
  simp [State.bandQueryAnswer, h]

/-! ### The rule of BAND -/

theorem exec_bandQuery_of_idle {s : State} (i : Byte) (hreset : s.resetLow = false) (hidle : s.link = .idle) :
    exec (.bandQuery i) s = .next { s with link := .answering (s.bandQueryAnswer i.toNat) [] } :=
  congrArg Host.Outcome.next (State.query_of_idle bandCode _ hreset hidle)

/-- Settles O46: by whether a front plan is installed, and then by whether its band list reaches the index. -/
theorem bandQueryAnswersItsIndex : Obligations.BandQueryAnswersItsIndex := by
  intro i s hreset hidle
  rw [exec_bandQuery_of_idle i hreset hidle]
  refine ⟨fun hnone => ?_, fun p hp => ⟨fun hbeyond => ?_, fun b hb => ?_⟩⟩
  · rw [State.bandQueryAnswer_of_none _ hnone]
    rfl
  · rw [State.bandQueryAnswer_of_some _ hp, Plan.bandAnswer_of_le _ hbeyond]
    rfl
  · rw [State.bandQueryAnswer_of_some _ hp, Plan.bandAnswer_of_some _ hb]
    rfl

end Sys2Proof.Machine
end

section
/-! PROOFS. The rise of select (R192): it is taken in every state, also under a low RESET_N, and replaces the transaction of its
port and nothing else. -/

namespace Sys2Proof.Machine

/-- The one field of the state that a change of a port's transaction writes, with what it writes there. -/
theorem State.setTransaction_eq (s : State) (p : Port) (t : Transaction) :
    s.setTransaction p t = { s with ports := s.ports.set p { s.ports.get p with transaction := t } } := rfl

theorem exec_selectRise (p : Port) (s : State) : exec (.selectRise p) s = .next (s.setTransaction p .idle) := rfl

/-- Settles O51: a rise of select is the change of the port's transaction to IDLE, with no guard on the state. -/
theorem selectRiseEndsTheTransaction : Obligations.SelectRiseEndsTheTransaction := by
  intro p s
  rw [exec_selectRise, State.setTransaction_eq]

end Sys2Proof.Machine
end

section
/-! PROOFS. One step, said once: a request is left alone, denied, or answered by its rule, and every other command is an
event. What a property of the part needs, to be kept by every step, is gathered in `KeptByEvents`. -/

namespace Sys2Proof.Machine

-- One proof after the other: proofs side by side would each hold a thread, and the check bounds their stacks.
set_option Elab.async false

/-! ### Requests -/

/-- The port may send the kind of request (R198). -/
def Permitted (p : Port) (c : Call) : Prop := supervisorOnly c.kind = false ∨ p = .sup

/-- The answer a request gets from a port: its rule's, or DENIED (R198). -/
def requestOutcome (p : Port) (c : Call) (s : State) : State × Reply :=
  if supervisorOnly c.kind && decide (p ≠ .sup) then refuse s .denied else requestRule p c s

theorem requestOutcome_of_permitted {p : Port} {c : Call} (h : Permitted p c) (s : State) :
    requestOutcome p c s = requestRule p c s := by
  rcases h with h | h <;> simp [requestOutcome, h]

theorem requestOutcome_of_not_permitted {p : Port} {c : Call} (h : ¬ Permitted p c) (s : State) :
    requestOutcome p c s = refuse s .denied := by
  simp only [Permitted, not_or, Bool.not_eq_false] at h
  simp [requestOutcome, h.1, h.2]

/-- A request leaves its buffer before its rule sees the state: a change of the ports alone. -/
theorem State.dequeue_eq_withPorts (s : State) (p : Port) :
    ∃ P l, s.dequeue p = s.withPorts P l := by
  cases p with
  | sup => exact ⟨_, s.lastServed, rfl⟩
  | client n => exact ⟨_, n, rfl⟩

/-- No request is taken while a commit waits or RESET_N is low (R69, R196, R202). -/
theorem State.choice_admits {s : State} {p : Port} {r : Request} (h : s.choice = some (p, r)) :
    s.commitsDue = [] ∧ s.resetLow = false := by
  by_contra hn
  have hport : s.chosenPort = none := if_pos (by
    by_cases hd : s.commitsDue = []
    · have hl : s.resetLow = true := by simpa [hd] using hn
      simp [hl]
    · simp [hd])
  simp [State.choice, hport] at h

/-- A request command, from the side of the part: nothing happens, or the chosen request is answered. -/
theorem exec_request_cases {c : Instr} {p : Port} {r : Request} {s t : State} (hc : c.request = some (p, r))
    (h : exec c s = .next t) :
    t = s ∨
      (s.choice = some (p, r) ∧
        t = (requestOutcome p r.call (s.dequeue p)).1.answer p
          { kind := r.call.kind, seq := r.seq, reply := (requestOutcome p r.call (s.dequeue p)).2 }) := by
  rw [exec_request hc] at h
  obtain rfl := Host.Outcome.next.inj h
  by_cases hchoice : s.choice = some (p, r)
  · exact .inr ⟨hchoice, State.serve_of_choice hchoice⟩
  · exact .inl (State.serve_of_not_choice hchoice)

/-- A chosen request but SOFT_RESET, from the side of the port: it is answered as its outcome on the state as it stood says. -/
theorem exec_eq_answered {c : Instr} {p : Port} {r : Request} {s : State} (hc : c.request = some (p, r))
    (h : s.choice = some (p, r)) (hr : r.call ≠ .softReset ∨ p ≠ .sup) :
    exec c s = .next ((requestOutcome p r.call s).1.answered p r (requestOutcome p r.call s).2) := by
  by_cases hp : Permitted p r.call
  · rw [requestOutcome_of_permitted hp]
    refine exec_of_choice hc h hp (fun hs => ?_)
    rcases hr with hr | hr
    · exact hr hs
    · rcases hp with hp | hp
      · simp [hs, Call.kind, supervisorOnly] at hp
      · exact hr hp
  · rw [requestOutcome_of_not_permitted hp]
    simp only [Permitted, not_or, Bool.not_eq_false] at hp
    obtain ⟨hk, hne⟩ := hp
    cases p with
    | sup => exact absurd rfl hne
    | client n => rw [exec_request hc, State.serve_of_choice h, State.take_denied hk]; rfl

/-! ### What the invariants of the part read -/

/-- The blocks behind the ports and the lines, but for the frame number and the sync expectation. -/
def State.behindPorts (s : State) :
    Vector (Option Region) 64 × PerSession (List TagEntry) × List PoolEntry × PerSession SessionRecord × ScanControl
      × Resolver × Option Plan × Vector Bool 64 × List Word16 :=
  (s.table, s.tagMaps, s.pool, s.sessions, { s.scan with frame := 0, expect := .vblank }, s.resolver, s.front, s.shown,
    s.commitsDue)

@[simp] theorem behindPorts_withPorts (s : State) (P : PerSession PortState) (l : Client) :
    (s.withPorts P l).behindPorts = s.behindPorts := rfl

@[simp] theorem behindPorts_mapPort (s : State) (p : Port) (f : PortState → PortState) :
    (s.mapPort p f).behindPorts = s.behindPorts := rfl

@[simp] theorem behindPorts_setTransaction (s : State) (p : Port) (t : Transaction) :
    (s.setTransaction p t).behindPorts = s.behindPorts := rfl

@[simp] theorem behindPorts_raise (s : State) (a : Alert) : (s.raise a).behindPorts = s.behindPorts := rfl

@[simp] theorem behindPorts_raiseIf (s : State) (b : Bool) (a : Alert) :
    (s.raiseIf b a).behindPorts = s.behindPorts := by
  cases b <;> rfl

@[simp] theorem behindPorts_query (s : State) (code : Byte) (form : State → Answer) :
    (s.query code form).behindPorts = s.behindPorts := by
  unfold State.query
  split
  · rfl
  · split <;> rfl

@[simp] theorem behindPorts_unknownQuery (s : State) (code : Byte) :
    (if code = planCode ∨ code = lineCode ∨ code = bandCode then s
      else s.query code (fun _ => .range code)).behindPorts = s.behindPorts := by
  split
  · rfl
  · exact behindPorts_query _ _ _

section
variable (s : State) (p : Port)

@[simp] theorem behindPorts_selectFall : (s.selectFall p).behindPorts = s.behindPorts := by
  unfold State.selectFall; split <;> rfl

@[simp] theorem behindPorts_writeCommand : (s.writeCommand p).behindPorts = s.behindPorts := by
  unfold State.writeCommand; split <;> rfl

@[simp] theorem behindPorts_readCommand : (s.readCommand p).behindPorts = s.behindPorts := by
  unfold State.readCommand; split <;> rfl

@[simp] theorem behindPorts_badCommand : (s.badCommand p).behindPorts = s.behindPorts := by
  unfold State.badCommand; split <;> rfl

@[simp] theorem behindPorts_endHeader (k q n : Byte) : (s.endHeader p k q n).behindPorts = s.behindPorts := by
  unfold State.endHeader; split <;> rfl

@[simp] theorem behindPorts_checkHeader (k q n : Byte) : (s.checkHeader p k q n).behindPorts = s.behindPorts := by
  unfold State.checkHeader
  split
  · split
    · exact behindPorts_endHeader s p k q n
    · rfl
  · rfl

@[simp] theorem behindPorts_receiveBytes (l : List Byte) : (s.receiveBytes p l).behindPorts = s.behindPorts := by
  unfold State.receiveBytes
  split
  · split <;> rfl
  · rfl
  · rfl

@[simp] theorem behindPorts_finishResponse : (s.finishResponse p).behindPorts = s.behindPorts := by
  unfold State.finishResponse; split <;> rfl

@[simp] theorem behindPorts_statusSent : (s.statusSent p).behindPorts = s.behindPorts := by
  unfold State.statusSent; split <;> rfl

end

/-! ### What a commit leaves of Scan Control and the Resolver -/

theorem applyEntry_scanSide (s : State) (e : PoolEntry) :
    ((applyEntry s e).scan, (applyEntry s e).resolver, (applyEntry s e).alerts) = (s.scan, s.resolver, s.alerts) := by
  unfold applyEntry
  split
  · rfl
  · split <;> rfl

theorem applyPending_scanSide (s : State) (n : Client) :
    ((applyPending s n).scan, (applyPending s n).resolver, (applyPending s n).alerts)
      = (s.scan, s.resolver, s.alerts) := by
  unfold applyPending
  split <;> rfl

/-- Pool and session application read Scan Control and leave it, the Resolver and the alerts (R72, R78). -/
theorem State.staged2_scanSide (s : State) :
    (s.staged2.scan, s.staged2.resolver, s.staged2.alerts) = (s.scan, s.resolver, s.alerts) :=
  (foldl_keeps _ (fun t : State => (t.scan, t.resolver, t.alerts)) applyPending_scanSide _ _).trans
    (foldl_keeps _ (fun t : State => (t.scan, t.resolver, t.alerts)) applyEntry_scanSide _ _)

@[simp] theorem State.staged2_scan (s : State) : s.staged2.scan = s.scan :=
  congrArg (fun z => z.1) s.staged2_scanSide

@[simp] theorem State.staged2_resolver (s : State) : s.staged2.resolver = s.resolver :=
  congrArg (fun z => z.2.1) s.staged2_scanSide

@[simp] theorem State.staged2_alerts (s : State) : s.staged2.alerts = s.alerts :=
  congrArg (fun z => z.2.2) s.staged2_scanSide

/-- CLIENT_LAPSED is raised into the Alert Set alone (R86). -/
theorem State.raiseLapsed_view {α : Type} (view : State → α)
    (h : ∀ (t : State) (b : Bool) (a : Alert), view (t.raiseIf b a) = view t) (before s : State) :
    view (before.raiseLapsed s) = view s :=
  foldl_keeps _ view (fun _ _ => h _ _ _) _ _

@[simp] theorem State.commitParts_scan (s : State) : s.commitParts.scan = s.scan := by
  simp [State.commitParts, State.raiseLapsed_view State.scan State.raiseIf_scan]

@[simp] theorem State.commitParts_resolver (s : State) : s.commitParts.resolver = s.resolver := by
  simp [State.commitParts, State.raiseLapsed_view State.resolver State.raiseIf_resolver]

/-- A commit clears the first-commit mark where it is material, and moves nothing else of Scan Control (R91). -/
theorem State.vblankCommit_scan (s : State) (f : Word16) :
    (s.vblankCommit f).scan = { s.scan with firstCommit := s.scan.firstCommit && !s.commitMaterial } := by
  unfold State.vblankCommit
  cases h : s.commitMaterial <;> simp

/-- No commit taken moves the scan state. -/
theorem State.takeCommit_scanState (s : State) : s.takeCommit.scan.state = s.scan.state := by
  unfold State.takeCommit
  split
  · rfl
  · rw [State.vblankCommit_scan]

theorem State.takeCommits_scanState (n : Nat) (s : State) : (s.takeCommits n).scan.state = s.scan.state := by
  induction n generalizing s with
  | zero => rfl
  | succ n ih => exact (ih s.takeCommit).trans s.takeCommit_scanState

theorem State.settled_scanState (s : State) : s.settled.scan.state = s.scan.state := s.takeCommits_scanState _

/-! ### What every step keeps -/

/-- A property of the blocks behind the ports that each happening of the part keeps: the requests a port may send, a commit
handed over, a commit taken, a swap, a completion, and RESET_N. -/
structure KeptByEvents (Inv : State → Prop) : Prop where
  view : ∀ {s t : State}, Inv s → t.behindPorts = s.behindPorts → Inv t
  rule : ∀ {p : Port} {c : Call} {s : State}, Permitted p c → s.commitsDue = [] → Inv s → Inv (requestRule p c s).1
  handOver : ∀ {s : State} (f : Word16), s.scan.state ≠ .stopped → Inv s →
    Inv { s with commitsDue := s.commitsDue ++ [f] }
  commit : ∀ {s : State} {f : Word16} {rest : List Word16}, s.commitsDue = f :: rest → Inv s → Inv s.takeCommit
  swap : ∀ {s : State} {p : Plan}, s.resolver = .ready p → s.scan.state ≠ .stopped → Inv s → Inv (s.install p)
  complete : ∀ {s : State} {j : ResolveJob}, s.resolver = .resolving j → Inv s → Inv { s with resolver := .ready j.plan }
  reset : ∀ s : State, Inv s.heldInReset

section
variable {Inv : State → Prop} (k : KeptByEvents Inv)
include k

theorem KeptByEvents.request {c : Instr} {p : Port} {r : Request} {s t : State} (hc : c.request = some (p, r))
    (h : exec c s = .next t) (hs : Inv s) : Inv t := by
  rcases exec_request_cases hc h with rfl | ⟨hchoice, rfl⟩
  · exact hs
  · obtain ⟨P, l, hd⟩ := s.dequeue_eq_withPorts p
    have hq : Inv (s.dequeue p) := k.view hs (by rw [hd]; rfl)
    refine k.view ?_ (behindPorts_mapPort _ _ _)
    by_cases hp : Permitted p r.call
    · rw [requestOutcome_of_permitted hp]
      exact k.rule hp (by rw [State.dequeue_commitsDue, (State.choice_admits hchoice).1]) hq
    · rw [requestOutcome_of_not_permitted hp]
      exact hq

theorem KeptByEvents.takeCommit {s : State} (hs : Inv s) : Inv s.takeCommit := by
  cases hd : s.commitsDue with
  | nil => simpa [State.takeCommit, hd] using hs
  | cons f rest => exact k.commit hd hs

theorem KeptByEvents.takeCommits (n : Nat) {s : State} (hs : Inv s) : Inv (s.takeCommits n) := by
  induction n generalizing s with
  | zero => exact hs
  | succ n ih => exact ih (k.takeCommit hs)

theorem KeptByEvents.takeVblank {s : State} (hs : Inv s) : Inv s.takeVblank := by
  unfold State.takeVblank
  split
  · exact hs
  · next hstopped =>
    have hne : s.scan.state ≠ .stopped := fun he => hstopped (by simp [he])
    dsimp only
    split
    · exact k.view (k.handOver (s.scan.frame + 1) hne hs) (by cases decide (s.scan.expect = .fstart) <;> rfl)
    · exact k.view hs (by cases decide (s.scan.expect = .fstart) <;> rfl)

/-- An FSTART passed on: the commits that wait, and then the swap (R125, R155). -/
theorem KeptByEvents.takeFstart {s : State} (hs : Inv s) : Inv s.takeFstart := by
  unfold State.takeFstart
  split
  · exact hs
  · next hstopped =>
    split
    · exact k.view hs rfl
    · have hq : Inv { s.settled with scan := { s.settled.scan with expect := .vblank } } :=
        k.view (k.takeCommits _ hs) rfl
      dsimp only [State.swap]
      split
      · next p hready =>
        refine k.swap hready ?_ hq
        rw [State.settled_scanState]
        exact fun he => hstopped (by simp [he])
      · exact k.view hq rfl
      · exact hq

theorem KeptByEvents.exec {c : Instr} {s t : State} (h : exec c s = .next t) (hs : Inv s) : Inv t := by
  cases c
  -- the thirty request commands, and then the events
  all_goals try exact k.request rfl h hs
  all_goals obtain rfl := Host.Outcome.next.inj h
  case vblank => exact k.takeVblank hs
  case fstart => exact k.takeFstart hs
  case resetN level =>
    cases level with
    | low => exact k.reset s
    | high => exact k.view hs rfl
  case commit => exact k.takeCommit hs
  case leaseLapse slot =>
    split
    · exact k.takeCommit hs
    · exact hs
  case graceRetire slot =>
    split
    · exact k.takeCommit hs
    · exact hs
  case resolveCompletion =>
    unfold State.completeResolve
    split
    · next hj => exact k.complete hj hs
    · exact hs
    · exact hs
  case planQuery => exact k.view hs (behindPorts_query _ _ _)
  case lineQuery y => exact k.view hs (behindPorts_query _ _ _)
  case bandQuery i => exact k.view hs (behindPorts_query _ _ _)
  case unknownQuery code => exact k.view hs (behindPorts_unknownQuery s code)
  case answerSent => exact k.view hs rfl
  case selectFall p => exact k.view hs (behindPorts_selectFall s p)
  case writeCommand p => exact k.view hs (behindPorts_writeCommand s p)
  case readCommand p => exact k.view hs (behindPorts_readCommand s p)
  case badCommandByte p b =>
    split
    · exact hs
    · exact k.view hs (behindPorts_badCommand s p)
  case headerFramingCheck p kind q n => exact k.view hs (behindPorts_checkHeader s p kind q n)
  case requestDecision p l => exact k.view hs (behindPorts_receiveBytes s p l)
  case responseSent p => exact k.view hs (behindPorts_finishResponse s p)
  case selectRise p => exact k.view hs rfl
  case statusByteSent p => exact k.view hs (behindPorts_statusSent s p)

/-- What each happening keeps, a step keeps. -/
theorem KeptByEvents.step {s t : State} (hs : Inv s) (h : step s = .next t) : Inv t := by
  unfold Machine.step at h
  split at h
  · exact Host.Outcome.next.inj h ▸ hs
  · exact k.exec h (k.view hs rfl)

end

end Sys2Proof.Machine
end

section
/-! PROOFS. What request rules leave alone: the scan side of the part (Scan Control, the Resolver, the front plan, the link, the
commits that wait, RESET_N and the queue of commands), and marks, which no request sets. -/

namespace Sys2Proof.Machine

set_option Elab.async false

/-- The scan side of the part, the link and what the outside drives. -/
def State.scanSide (s : State) :
    ScanControl × Resolver × Option Plan × Link × List Word16 × Bool × List Instr :=
  (s.scan, s.resolver, s.front, s.link, s.commitsDue, s.resetLow, s.pending)

/-- Nothing of the scan side has moved, and no mark is set that was clear. -/
def State.ScanKept (s t : State) : Prop :=
  t.scanSide = s.scanSide ∧ ∀ k : Slot, t.shown[k] = true → s.shown[k] = true

theorem State.ScanKept.of_eq {s t : State} (h : t.scanSide = s.scanSide) (hs : t.shown = s.shown) : s.ScanKept t :=
  ⟨h, fun _ hk => hs ▸ hk⟩

theorem State.ScanKept.refl (s : State) : s.ScanKept s := .of_eq rfl rfl

theorem State.ScanKept.trans {s t u : State} (h : s.ScanKept t) (h' : t.ScanKept u) : s.ScanKept u :=
  ⟨h'.1.trans h.1, fun k hk => h.2 k (h'.2 k hk)⟩

/-- A fold of steps that each leave the scan side alone leaves it alone. -/
theorem foldl_scanKept {α β : Type} (f : β → α → β) (view : β → State)
    (h : ∀ b a, (view b).ScanKept (view (f b a))) (l : List α) (b : β) : (view b).ScanKept (view (l.foldl f b)) := by
  induction l generalizing b with
  | nil => exact .refl _
  | cons a l ih => exact (h b a).trans (ih (f b a))

/-- A request rule that leaves the scan side alone. -/
def KeepsScanSide (f : State → State × Reply) : Prop := ∀ s : State, s.ScanKept (f s).1

/-- Two outcomes of one condition that leave the scan side alone. -/
theorem ite_scanSide {s : State} {c : Prop} [Decidable c] {a b : State × Reply} (ha : s.ScanKept a.1)
    (hb : s.ScanKept b.1) : s.ScanKept (if c then a else b).1 := by
  split
  · exact ha
  · exact hb

theorem State.freeRegion_scanSide (s : State) (k : Slot) (x : Session) : s.ScanKept (s.freeRegion k x) := by
  refine ⟨rfl, fun j hj => ?_⟩
  have hset : (s.shown.set k false)[j] = true := hj
  rw [Fin.getElem_fin, Vector.getElem_set] at hset
  split at hset
  · simp at hset
  · exact hset

theorem State.depart_scanSide (s : State) (x : Session) : s.ScanKept (s.depart x) :=
  ⟨rfl, fun k hk => by simpa [State.depart] using (by simpa [State.depart] using hk : _ ∧ _).1⟩

theorem State.drain_scanSide (s : State) (x : Session) : s.ScanKept (s.drain x) :=
  ⟨rfl, fun k hk => by simpa [State.drain] using (by simpa [State.drain] using hk : _ ∧ _).1⟩

theorem attachRequest_scanSide (p : Port) : KeepsScanSide (attachRequest p) := by
  intro s
  cases p with
  | sup => exact .of_eq rfl rfl
  | client n =>
    simp only [attachRequest]
    cases (s.sessions.get (.client n)).state <;> exact .of_eq rfl rfl

theorem detachRequest_scanSide (p : Port) : KeepsScanSide (detachRequest p) := by
  intro s
  cases p with
  | sup => exact .of_eq rfl rfl
  | client n =>
    simp only [detachRequest]
    cases (s.sessions.get (.client n)).state with
    | detached => exact .refl s
    | draining => exact .refl s
    | attached => exact s.depart_scanSide _
    | suspended => exact s.depart_scanSide _

theorem setLimitsRequest_scanSide (a b c d : Byte) : KeepsScanSide (setLimitsRequest a b c d) := by
  intro s
  unfold setLimitsRequest
  cases clientOf a with
  | none => exact .of_eq rfl rfl
  | some n => (repeat' apply ite_scanSide) <;> exact .of_eq rfl rfl

theorem changePending_scanSide (b : Byte) (f : SessionRecord → PendingChange) : KeepsScanSide (changePending b f) := by
  intro s
  unfold changePending
  cases clientOf b with
  | none => exact .of_eq rfl rfl
  | some n =>
    dsimp only
    cases (s.sessions.get (.client n)).state <;> exact .of_eq rfl rfl

theorem evictRequest_scanSide (b : Byte) : KeepsScanSide (evictRequest b) := by
  intro s
  unfold evictRequest
  cases clientOf b with
  | none => exact .refl s
  | some n =>
    dsimp only
    cases (s.sessions.get (.client n)).state with
    | detached => exact .refl s
    | draining => exact .refl s
    | attached => exact s.depart_scanSide _
    | suspended => exact s.depart_scanSide _

theorem openRequest_scanSide (p : Port) (b : FieldBlock) : KeepsScanSide (openRequest p b) := by
  intro s
  cases p with
  | sup => exact ite_scanSide (.of_eq rfl rfl) (.of_eq rfl rfl)
  | client n =>
    simp only [openRequest, openClient]
    cases s.sessionRefusal (.client n) .change with
    | some c => exact .of_eq rfl rfl
    | none => cases s.lowestFree <;> (dsimp only; (repeat' apply ite_scanSide) <;> exact .of_eq rfl rfl)

theorem pinRequest_scanSide (b : FieldBlock) : KeepsScanSide (pinRequest b) := by
  intro s
  simp only [pinRequest]
  cases s.lowestFree <;> (dsimp only; (repeat' apply ite_scanSide) <;> exact .of_eq rfl rfl)

theorem amendChecked_scanSide (p : Port) (b : FieldBlock) (k : Slot) (r : Region) :
    KeepsScanSide (amendChecked p b k r) := by
  intro s
  simp only [amendChecked, State.stageAmend]
  cases p <;> cases s.entryFor k <;> (dsimp only; (repeat' apply ite_scanSide) <;> exact .of_eq rfl rfl)

theorem amendRequest_scanSide (p : Port) (b : FieldBlock) : KeepsScanSide (amendRequest p b) := by
  intro s
  simp only [amendRequest]
  cases s.sessionRefusal p .change with
  | some c => exact .of_eq rfl rfl
  | none =>
    rcases s.regionByTag p b.tag with c | ⟨k, r⟩
    · exact .of_eq rfl rfl
    · dsimp only
      cases r.state with
      | lapsed => exact .of_eq rfl rfl
      | retiring => exact .of_eq rfl rfl
      | stagedNew => exact amendChecked_scanSide p b k r s
      | live => exact amendChecked_scanSide p b k r s

theorem renewRegion_scanSide (k : Slot) (r : Region) : KeepsScanSide (renewRegion k r) := by
  intro s
  simp only [renewRegion]
  cases r.state with
  | live => exact .of_eq rfl rfl
  | stagedNew => exact .of_eq rfl rfl
  | retiring => exact .of_eq rfl rfl
  | lapsed => (repeat' apply ite_scanSide) <;> exact .of_eq rfl rfl

theorem renewEntry_scanSide (a : RenewTally) (e : TagEntry) : a.state.ScanKept (renewEntry a e).state := by
  simp only [renewEntry]
  cases e.slot with
  | none => exact .refl _
  | some k =>
    dsimp only
    cases a.state.table[k] with
    | none => exact .refl _
    | some r =>
      dsimp only
      cases r.state with
      | live => exact .of_eq rfl rfl
      | stagedNew => exact .refl _
      | retiring => exact .refl _
      | lapsed => dsimp only; split_ifs <;> exact .of_eq rfl rfl

theorem State.raiseIf_scanSide (s : State) (b : Bool) (a : Alert) : s.ScanKept (s.raiseIf b a) := by
  cases b <;> exact .of_eq rfl rfl

theorem renewEvery_scanSide (x : Session) : KeepsScanSide (renewEvery x) := fun s =>
  (foldl_scanKept renewEntry RenewTally.state renewEntry_scanSide (s.tagMaps.get x) _).trans
    (State.raiseIf_scanSide _ _ _)

theorem renewRequest_scanSide (p : Port) (tag : Word16) : KeepsScanSide (renewRequest p tag) := by
  intro s
  cases p with
  | sup => exact .of_eq rfl rfl
  | client n =>
    simp only [renewRequest]
    cases s.sessionRefusal (.client n) .change with
    | some c => exact .of_eq rfl rfl
    | none =>
      refine ite_scanSide (renewEvery_scanSide _ s) ?_
      rcases s.regionByTag (.client n) tag with c | ⟨k, r⟩
      · exact .of_eq rfl rfl
      · exact renewRegion_scanSide k r s

theorem removeRegion_scanSide (p : Port) (z : EntryKind) (k : Slot) (r : Region) :
    KeepsScanSide (removeRegion p z k r) := by
  intro s
  have hstage : s.ScanKept (s.stageRemoval k r z) := by
    unfold State.stageRemoval
    split <;> exact .of_eq rfl rfl
  simp only [removeRegion]
  cases r.state with
  | stagedNew => exact (State.ScanKept.of_eq rfl rfl).trans ((s.unstage k).freeRegion_scanSide k p)
  | retiring => exact .refl s
  | live => exact ite_scanSide (.of_eq rfl rfl) hstage
  | lapsed => exact ite_scanSide (.of_eq rfl rfl) hstage

theorem releaseRequest_scanSide (p : Port) (tag : Word16) : KeepsScanSide (releaseRequest p tag) := by
  intro s
  cases p with
  | sup => exact .of_eq rfl rfl
  | client n =>
    simp only [releaseRequest]
    cases s.sessionRefusal (.client n) .change with
    | some c => exact .of_eq rfl rfl
    | none =>
      rcases s.regionByTag (.client n) tag with c | ⟨k, r⟩
      · exact .of_eq rfl rfl
      · exact removeRegion_scanSide (.client n) .release k r s

theorem unpinRequest_scanSide (tag : Word16) : KeepsScanSide (unpinRequest tag) := by
  intro s
  simp only [unpinRequest]
  rcases s.regionByTag .sup tag with c | ⟨k, r⟩
  · exact .of_eq rfl rfl
  · exact removeRegion_scanSide .sup .unpin k r s

theorem lookupRequest_scanSide (p : Port) (tag : Word16) : KeepsScanSide (lookupRequest p tag) := by
  intro s
  simp only [lookupRequest]
  cases s.sessionRefusal p .read with
  | some c => exact .of_eq rfl rfl
  | none => rcases s.regionByTag p tag with c | ⟨k, r⟩ <;> exact .of_eq rfl rfl

theorem lookupSlotRequest_scanSide (b : Byte) : KeepsScanSide (lookupSlotRequest b) := by
  intro s
  unfold lookupSlotRequest
  split <;> exact .of_eq rfl rfl

theorem probeRequest_scanSide (p : Port) (x y : Word16) : KeepsScanSide (probeRequest p x y) := by
  intro s
  simp only [probeRequest]
  cases s.sessionRefusal p .read with
  | some c => exact .of_eq rfl rfl
  | none => (repeat' apply ite_scanSide) <;> exact .of_eq rfl rfl

theorem walkStartRequest_scanSide (p : Port) (b : Byte) : KeepsScanSide (walkStartRequest p b) := by
  intro s
  simp only [walkStartRequest]
  cases s.sessionRefusal p .read with
  | some c => exact .of_eq rfl rfl
  | none => cases filterOf b <;> exact .of_eq rfl rfl

theorem walkNextRequest_scanSide (p : Port) : KeepsScanSide (walkNextRequest p) := by
  intro s
  simp only [walkNextRequest]
  cases s.sessionRefusal p .read with
  | some c => exact .of_eq rfl rfl
  | none => cases (s.sessions.get p).cursor <;> exact .of_eq rfl rfl

theorem fetchNoticesRequest_scanSide (p : Port) : KeepsScanSide (fetchNoticesRequest p) := by
  intro s
  simp only [fetchNoticesRequest]
  cases s.sessionRefusal p .fetch <;> exact .of_eq rfl rfl

theorem fetchAlertsRequest_scanSide : KeepsScanSide fetchAlertsRequest := fun _ => (State.ScanKept.of_eq rfl rfl).trans
    (State.raiseIf_scanSide _ _ _)

theorem setAlertMaskRequest_scanSide (m : Byte) : KeepsScanSide (setAlertMaskRequest m) := by
  intro s
  unfold setAlertMaskRequest
  cases alertMaskOf m <;> exact .of_eq rfl rfl

theorem applyEntry_scanKept (s : State) (e : PoolEntry) : s.ScanKept (applyEntry s e) := by
  unfold applyEntry
  split
  · exact .refl s
  · split
    case h_5 => exact s.freeRegion_scanSide _ _
    case h_6 => exact s.freeRegion_scanSide _ _
    all_goals exact .of_eq rfl rfl

theorem applyPending_scanKept (s : State) (n : Client) : s.ScanKept (applyPending s n) := by
  unfold applyPending
  split
  case h_4 => exact s.drain_scanSide _
  all_goals exact .of_eq rfl rfl

theorem State.staged2_scanKept (s : State) : s.ScanKept s.staged2 :=
  (foldl_scanKept applyEntry id applyEntry_scanKept s.pool s).trans
    ((State.ScanKept.of_eq rfl rfl).trans
      (foldl_scanKept applyPending id applyPending_scanKept clients s.applyPool))

theorem forceCommitRequest_scanSide : KeepsScanSide forceCommitRequest := by
  intro s
  unfold forceCommitRequest
  exact ite_scanSide (.refl s) (s.staged2_scanKept.trans (.of_eq rfl rfl))

/-- The requests that act on the scan side (R144), but for FORCE_COMMIT, which leaves it alone (R95). -/
def movesScan : Call → Bool
  | .configure _ _ _ _ | .start | .hold | .resumeScan | .stop | .clearTable | .softReset => true
  | _ => false

/-- Every other rule leaves the scan side alone. -/
theorem requestRule_scanSide (p : Port) (c : Call) (h : movesScan c = false) : KeepsScanSide (requestRule p c) := by
  cases c with
  | attach => exact attachRequest_scanSide p
  | detach => exact detachRequest_scanSide p
  | openRegion b => exact openRequest_scanSide p b
  | amend b => exact amendRequest_scanSide p b
  | renew t => exact renewRequest_scanSide p t
  | release t => exact releaseRequest_scanSide p t
  | lookup t => exact lookupRequest_scanSide p t
  | probe x y => exact probeRequest_scanSide p x y
  | walkStart f => exact walkStartRequest_scanSide p f
  | walkNext => exact walkNextRequest_scanSide p
  | fetchNotices => exact fetchNoticesRequest_scanSide p
  | pin b => exact pinRequest_scanSide b
  | unpin t => exact unpinRequest_scanSide t
  | lookupSlot k => exact lookupSlotRequest_scanSide k
  | setLimits c q l m => exact setLimitsRequest_scanSide c q l m
  | suspend c => exact changePending_scanSide c _
  | resume c => exact changePending_scanSide c _
  | evict c => exact evictRequest_scanSide c
  | forceCommit => exact forceCommitRequest_scanSide
  | readStatus => exact fun s => .refl s
  | fetchAlerts => exact fetchAlertsRequest_scanSide
  | setAlertMask m => exact setAlertMaskRequest_scanSide m
  | configure w v b g => cases h
  | start => cases h
  | hold => cases h
  | resumeScan => cases h
  | stop => cases h
  | clearTable => cases h
  | softReset => cases h

end Sys2Proof.Machine
end

section
/-! PROOFS. Scan state, plans, Resolver and panel stay in agreement (R107, R124, R131, R149, R156): the requests that move the scan
side one by one, commits and swaps, and every other rule by leaving the scan side alone. -/

namespace Sys2Proof.Machine

set_option Elab.async false

/-! ### Marks -/

/-- A mark vector is clear when every mark is. -/
theorem shown_eq_clear_iff {v : Vector Bool 64} :
    v = Vector.replicate 64 false ↔ ∀ k : Slot, v[k] = false := by
  constructor
  · rintro rfl k
    simp
  · intro h
    apply Vector.ext
    intro i hi
    simpa using h ⟨i, hi⟩

/-- Marks stay clear where none is set. -/
theorem shown_clear_of_within {v w : Vector Bool 64} (hv : v = Vector.replicate 64 false)
    (h : ∀ k : Slot, w[k] = true → v[k] = true) : w = Vector.replicate 64 false := by
  rw [shown_eq_clear_iff] at hv ⊢
  intro k
  by_contra hk
  have := h k (by simpa using hk)
  rw [hv k] at this
  cases this

/-! ### What leaves the scan side alone keeps it legal -/

theorem State.ScanLegal.of_kept {s t : State} (h : s.ScanKept t) (hs : s.ScanLegal) : t.ScanLegal := by
  obtain ⟨hside, hshown⟩ := h
  simp only [State.scanSide, Prod.mk.injEq] at hside
  obtain ⟨hscan, hresolver, hfront, -, hdue, -, -⟩ := hside
  obtain ⟨hpanel, hgrace, hstopped, hrest⟩ := hs
  simp only [State.ScanLegal, hscan, hresolver, hfront, hdue]
  refine ⟨hpanel, hgrace, fun hst => ?_, hrest⟩
  obtain ⟨hf, hr, hm, hc⟩ := hstopped hst
  exact ⟨hf, hr, shown_clear_of_within hm hshown, hc⟩

/-! ### The requests that move the scan side -/

theorem panelSide_iff {n : Nat} : panelSide n = true ↔ 16 ≤ n ∧ n ≤ 4096 := by
  simp only [panelSide, Bool.and_eq_true, decide_eq_true_eq]
  exact Iff.rfl

section
variable {s : State} (hs : s.ScanLegal)
include hs

theorem startRequest_scanLegal : (startRequest s).1.ScanLegal := by
  unfold startRequest
  split
  · exact hs
  · next hst =>
    have hst : s.scan.state = .stopped := not_not.mp hst
    split
    · exact hs
    · next hconf =>
      have hw := State.configured_iff.mp (by simpa using hconf)
      obtain ⟨hpanel, hgrace, hstopped, -, -, -, -, hplan, hjob⟩ := hs
      obtain ⟨hf, hr, -⟩ := hstopped hst
      refine ⟨hpanel, hgrace, by simp [scanReply, accept], fun _ => hw.1, fun _ => hf, by simp [scanReply, accept],
        fun h => ?_, hplan, hjob⟩
      simp [scanReply, accept, hf, hr] at h

theorem holdRequest_scanLegal : (holdRequest s).1.ScanLegal := by
  unfold holdRequest
  split
  · exact hs
  · next hst =>
    have hst : s.scan.state = .running := not_not.mp hst
    obtain ⟨hpanel, hgrace, -, hwidth, -, hfront, hfirst, hplan, hjob⟩ := hs
    refine ⟨hpanel, hgrace, by simp [scanReply, accept], fun _ => hwidth (by simp [hst]), by simp [scanReply, accept],
      fun _ => hfront (.inl hst), hfirst, hplan, hjob⟩

theorem resumeScanRequest_scanLegal : (resumeScanRequest s).1.ScanLegal := by
  unfold resumeScanRequest
  split
  · exact hs
  · next hst =>
    have hst : s.scan.state = .hold := not_not.mp hst
    obtain ⟨hpanel, hgrace, -, hwidth, -, hfront, hfirst, hplan, hjob⟩ := hs
    refine ⟨hpanel, hgrace, by simp [scanReply, accept], fun _ => hwidth (by simp [hst]), by simp [scanReply, accept],
      fun _ => hfront (.inr hst), hfirst, hplan, hjob⟩

/-- STOP is taken with no commit waiting (R149, R196). -/
theorem stopRequest_scanLegal (hdue : s.commitsDue = []) : (stopRequest s).1.ScanLegal := by
  obtain ⟨hpanel, hgrace, -⟩ := hs
  exact ⟨hpanel, hgrace, fun _ => ⟨rfl, rfl, rfl, rfl, hdue⟩, fun h => absurd rfl h, fun _ => rfl, nofun, fun _ => rfl,
    nofun, nofun⟩

theorem configureRequest_scanLegal (w h : Word16) (bg : Colour) (g : Byte) :
    (configureRequest w h bg g s).1.ScanLegal := by
  unfold configureRequest
  split
  · exact hs
  · next hst =>
    have hst : s.scan.state = .stopped := not_not.mp hst
    split
    · exact hs
    · next hvalid =>
      split
      · exact hs
      · obtain ⟨⟨⟨hw, hw'⟩, hh, hh'⟩, hg⟩ :
            ((16 ≤ w.toNat ∧ w.toNat ≤ 4096) ∧ 16 ≤ h.toNat ∧ h.toNat ≤ 4096) ∧ g.toNat ≤ Config.graceMax := by
          simpa [panelSide_iff] using hvalid
        obtain ⟨-, -, hstopped, -⟩ := hs
        obtain ⟨hf, hr, hm, hc, hdue⟩ := hstopped hst
        have hne : ∀ st : ScanState, st ≠ .stopped → s.scan.state ≠ st := fun st hne he => hne (he.symm.trans hst)
        refine ⟨.inr ⟨hw, hw', hh, hh'⟩, hg, fun _ => ⟨hf, hr, hm, hc, hdue⟩, fun h => absurd hst h, fun _ => hf,
          fun h => ?_, fun _ => hc, ?_, ?_⟩
        · rcases h with h | h
          · exact absurd h (hne _ (by decide))
          · exact absurd h (hne _ (by decide))
        · simp [accept, hf]
        · simp [accept, hr, Resolver.panel]

theorem clearTable_scanLegal (hst : s.scan.state = .stopped ∨ s.scan.state = .hold) : s.clearTable.ScanLegal := by
  obtain ⟨hpanel, hgrace, hstopped, hwidth, hpriming, hfront, hfirst, hplan, hjob⟩ := hs
  rcases hst with hst | hst
  · obtain ⟨hf, hr, -, hc⟩ := hstopped hst
    simp only [State.clearTable, hst]
    exact ⟨hpanel, hgrace, fun _ => ⟨hf, hr, rfl, hc⟩, hwidth, hpriming, hfront, hfirst, hplan, hjob⟩
  · simp only [State.clearTable, hst]
    have hfc : s.scan.firstCommit = false := hfirst (.inr (hfront (.inr hst)))
    refine ⟨hpanel, hgrace, fun h => ?_, fun _ => hwidth (by simp [hst]), fun h => ?_, fun _ => rfl, fun _ => hfc, ?_, nofun⟩
    · exact absurd (hst.symm.trans h) (by decide)
    · exact absurd (hst.symm.trans h) (by decide)
    · rintro p hp
      obtain rfl := Option.some.inj hp
      exact ⟨rfl, rfl⟩

theorem clearTableRequest_scanLegal : (clearTableRequest s).1.ScanLegal := by
  unfold clearTableRequest
  split
  · next hst => exact clearTable_scanLegal hs (.inl hst)
  · next hst => exact clearTable_scanLegal hs (.inr hst)
  · exact hs
  · exact hs

theorem softResetRequest_scanLegal : (softResetRequest s).1.ScanLegal := by
  obtain ⟨hpanel, hgrace, -⟩ := hs
  exact ⟨hpanel, hgrace, fun _ => ⟨rfl, rfl, rfl, rfl, rfl⟩, fun h => absurd rfl h, fun _ => rfl, nofun, fun _ => rfl,
    nofun, nofun⟩

theorem requestRule_scanLegal (p : Port) (c : Call) (hdue : s.commitsDue = []) : (requestRule p c s).1.ScanLegal := by
  cases hc : movesScan c with
  | false => exact .of_kept (requestRule_scanSide p c hc s) hs
  | true =>
    cases c
    all_goals try exact Bool.noConfusion hc
    case configure w h bg g => exact configureRequest_scanLegal hs w h bg g
    case start => exact startRequest_scanLegal hs
    case hold => exact holdRequest_scanLegal hs
    case resumeScan => exact resumeScanRequest_scanLegal hs
    case stop => exact stopRequest_scanLegal hs hdue
    case clearTable => exact clearTableRequest_scanLegal hs
    case softReset => exact softResetRequest_scanLegal hs

/-! ### Commits, swaps and completions -/

end

theorem State.countLeases_scanKept (s : State) (pool : List PoolEntry) : s.ScanKept (s.countLeases pool) :=
  ⟨by simp only [State.scanSide, State.countLeases], fun k hk => by
    simpa [State.countLeases] using (by simpa [State.countLeases] using hk : _ ∧ _).1⟩

theorem State.raiseLapsed_scanKept (before s : State) : s.ScanKept (before.raiseLapsed s) :=
  foldl_scanKept _ id (fun _ _ => State.raiseIf_scanSide _ _ _) clients s

theorem State.present_markCursors_scanKept (s : State) : s.ScanKept s.present.markCursors := .of_eq rfl rfl

theorem State.commitParts_scanKept (s : State) : s.ScanKept s.commitParts :=
  s.staged2_scanKept.trans ((s.staged2.countLeases_scanKept s.pool).trans
    ((s.raiseLapsed_scanKept _).trans (State.present_markCursors_scanKept _)))

/-- A commit taken leaves the scan side legal: it starts a resolve of the panel, or leaves the Resolver (R91). -/
theorem State.vblankCommit_scanLegal {s : State} (f : Word16) (hst : s.scan.state ≠ .stopped) (hs : s.ScanLegal) :
    (s.vblankCommit f).ScanLegal := by
  have hparts := State.ScanLegal.of_kept s.commitParts_scanKept hs
  unfold State.vblankCommit
  split
  · obtain ⟨hpanel, hgrace, -, hwidth, hpriming, hfront, -, hplan, -⟩ := hparts
    refine ⟨hpanel, hgrace, fun h => ?_, hwidth, hpriming, hfront, fun _ => rfl, hplan, ?_⟩
    · exact absurd ((congrArg ScanControl.state s.commitParts_scan).symm.trans h) hst
    · rintro d hd
      exact (Option.some.inj hd).symm
  · exact hparts

theorem State.takeCommit_scanLegal {s : State} {f : Word16} {rest : List Word16} (hd : s.commitsDue = f :: rest)
    (hs : s.ScanLegal) : s.takeCommit.ScanLegal := by
  have hst : s.scan.state ≠ .stopped := fun h => by
    obtain ⟨-, -, hstopped, -⟩ := hs
    simp [(hstopped h).2.2.2.2] at hd
  have htake : s.takeCommit = ({ s with commitsDue := rest } : State).vblankCommit f := by simp [State.takeCommit, hd]
  rw [htake]
  refine State.vblankCommit_scanLegal f hst ?_
  obtain ⟨hpanel, hgrace, -, hrest⟩ := hs
  exact ⟨hpanel, hgrace, fun h => absurd h hst, hrest⟩

/-- A swap installs a plan of the panel and ends PRIMING (R125, R131). -/
theorem State.install_scanLegal {s : State} {p : Plan} (hr : s.resolver = .ready p) (hst : s.scan.state ≠ .stopped)
    (hs : s.ScanLegal) : (s.install p).ScanLegal := by
  obtain ⟨hpanel, hgrace, -, hwidth, -, -, hfirst, -, hjob⟩ := hs
  have hafter : afterInstall s.scan.state = .running ∨ afterInstall s.scan.state = .hold := by
    cases h : s.scan.state <;> simp_all [afterInstall]
  simp only [State.ScanLegal, State.install, State.raiseIf_scan, State.raiseIf_resolver, State.raiseIf_front,
    State.raiseIf_shown, State.raiseIf_commitsDue]
  refine ⟨hpanel, hgrace, fun h => ?_, fun _ => hwidth hst, fun h => ?_, fun _ => rfl, fun _ => hfirst (by simp [hr]), ?_, nofun⟩
  · simp [h] at hafter
  · simp [h] at hafter
  · rintro q hq
    obtain rfl := Option.some.inj hq
    have hpair := hjob (p.width, p.height) (by rw [hr]; rfl)
    exact ⟨congrArg Prod.fst hpair, congrArg Prod.snd hpair⟩

theorem ResolveJob.plan_panel (j : ResolveJob) : (j.plan.width, j.plan.height) = (j.width, j.height) := by
  unfold ResolveJob.plan
  dsimp only
  split <;> rfl

theorem State.complete_scanLegal {s : State} {j : ResolveJob} (hr : s.resolver = .resolving j) (hs : s.ScanLegal) :
    ({ s with resolver := .ready j.plan } : State).ScanLegal := by
  obtain ⟨hpanel, hgrace, hstopped, hwidth, hpriming, hfront, hfirst, hplan, hjob⟩ := hs
  refine ⟨hpanel, hgrace, fun h => ?_, hwidth, hpriming, hfront, fun _ => hfirst (by simp [hr]), hplan, ?_⟩
  · simp [(hstopped h).2.1] at hr
  · rintro d hd
    have hd : d = (j.plan.width, j.plan.height) := (Option.some.inj hd).symm
    rw [hd, j.plan_panel]
    exact hjob _ (by rw [hr]; rfl)

theorem State.ScanLegal.of_view {s t : State} (hs : s.ScanLegal) (h : t.behindPorts = s.behindPorts) : t.ScanLegal := by
  simp only [State.behindPorts, Prod.mk.injEq, ScanControl.mk.injEq] at h
  obtain ⟨-, -, -, -, ⟨hstate, -, -, hwidth, hheight, -, hgrace, hfirst⟩, hresolver, hfront, hshown, hdue⟩ := h
  simpa only [State.ScanLegal, hstate, hwidth, hheight, hgrace, hfirst, hresolver, hfront, hshown, hdue] using hs

theorem State.heldInReset_scanLegal (s : State) : s.heldInReset.ScanLegal := by
  refine ⟨.inl ⟨rfl, rfl⟩, (by decide : 4 ≤ 15), fun _ => ⟨rfl, rfl, rfl, rfl, rfl⟩, fun h => absurd rfl h, fun _ => rfl, nofun,
    fun _ => rfl, nofun, nofun⟩

theorem scanLegal_keptByEvents : KeptByEvents State.ScanLegal where
  view := State.ScanLegal.of_view
  rule _ hdue hs := requestRule_scanLegal hs _ _ hdue
  handOver f hst hs := by
    obtain ⟨hpanel, hgrace, -, hrest⟩ := hs
    exact ⟨hpanel, hgrace, fun h => absurd h hst, hrest⟩
  commit := State.takeCommit_scanLegal
  swap := State.install_scanLegal
  complete := State.complete_scanLegal
  reset := State.heldInReset_scanLegal

/-- Settles O58: each happening keeps the scan side legal, so a step does. -/
theorem stepKeepsScanLegal : Obligations.StepKeepsScanLegal := fun _ _ => scanLegal_keptByEvents.step

end Sys2Proof.Machine
end

section
/-! PROOFS. What a request that its port may send does to the part, said once: a list of effects with the checks that each has
passed (`RuleEffect`), and the reading of every request rule as effects (`requestRule_effect`). -/

namespace Sys2Proof.Machine

set_option Elab.async false

/-! ### The region that a tag names -/

/-- The region a tag names stands in the slot of the sender's own entry of that tag (R49). -/
theorem State.regionByTag_ok {s : State} {x : Session} {t : Word16} {k : Slot} {r : Region}
    (h : s.regionByTag x t = .ok (k, r)) :
    t ≠ 0 ∧ s.table[k] = some r ∧ ∃ e ∈ s.tagMaps.get x, e.tag = t ∧ e.slot = some k := by
  unfold State.regionByTag at h
  split at h
  · cases h
  · next ht =>
    split at h
    · cases h
    · next e he =>
      split at h
      · cases h
      · next j hj =>
        split at h
        · cases h
        · next g hg =>
          obtain ⟨rfl, rfl⟩ := Prod.mk.inj (Except.ok.inj h)
          exact ⟨ht, hg, e, List.mem_of_find?_eq_some he, by simpa using List.find?_some he, hj⟩

/-- The session of a sender whose change is not refused is ATTACHED, or it is SUP (R27). -/
theorem State.sessionRefusal_change {s : State} {x : Session} (h : s.sessionRefusal x .change = none) :
    x = .sup ∨ (s.sessions.get x).state = .attached := by
  cases x with
  | sup => exact .inl rfl
  | client n =>
    right
    simp only [State.sessionRefusal] at h
    cases hst : (s.sessions.get (.client n)).state <;> simp [hst, Access.refusal] at h ⊢

/-- A sender whose reading or fetching is not refused is not DETACHED, or it is SUP (R27). -/
theorem State.sessionRefusal_none {s : State} {x : Session} {a : Access} (h : s.sessionRefusal x a = none) :
    x = .sup ∨ (s.sessions.get x).state ≠ .detached := by
  cases x with
  | sup => exact .inl rfl
  | client n =>
    right
    rintro hst
    cases a <;> simp [State.sessionRefusal, hst, Access.refusal] at h

/-- The lowest FREE slot is FREE (R17). -/
theorem State.lowestFree_free {s : State} {k : Slot} (h : s.lowestFree = some k) : s.table[k] = none := by
  simpa using List.find?_some h

/-! ### Effects -/

/-- The field-validity step of an AMEND, by its sender (R56, R58). -/
def amendValid (p : Port) (b : FieldBlock) (held : Option Fill) : Bool :=
  match p with
  | .sup => amendValidPinned b held
  | .client _ => amendValidClient b held

/-- One effect of a request from the port, from the state it meets to the state it leaves, with the checks passed. Several may
follow one another. -/
inductive RuleEffect (p : Port) : State → State → Prop
  | none (s : State) : RuleEffect p s s
  | trans {s t u : State} : RuleEffect p s t → RuleEffect p t u → RuleEffect p s u
  | alert (s : State) (a : AlertSet) (h : p ≠ .sup → a.mask = s.alerts.mask) : RuleEffect p s { s with alerts := a }
  | attach {s : State} {n : Client} (hp : p = .client n) (hst : (s.sessions.get (.client n)).state = .detached) :
    RuleEffect p s (s.mapSession (.client n) (fun r => { r with state := .attached, evicted := false }))
  | depart {s : State} {n : Client} (hp : p = .client n ∨ p = .sup)
      (hst : (s.sessions.get (.client n)).state = .attached ∨ (s.sessions.get (.client n)).state = .suspended) :
    RuleEffect p s (s.depart (.client n))
  | evictedMark {s : State} {n : Client} (hp : p = .sup) (hst : (s.sessions.get (.client n)).state = .draining) :
    RuleEffect p s (s.mapSession (.client n) (fun r => { r with evicted := true }))
  | limits {s : State} {n : Client} {quota ceiling leaseMax : Byte} (hp : p = .sup)
      (hvalid : limitsValid quota ceiling leaseMax = true) (hst : (s.sessions.get (.client n)).state = .detached)
      (hsum : s.quotaSumWith n quota.toNat ≤ 56) :
    RuleEffect p s (s.mapSession (.client n) (fun r =>
      { r with quota := quota.toNat, ceiling := ceiling.toNat, leaseMax := leaseMax.toNat }))
  | pending {s : State} {n : Client} {f : SessionRecord → PendingChange} (hp : p = .sup)
      (hf : f = pendingAfterSuspend ∨ f = pendingAfterResume)
      (hst : (s.sessions.get (.client n)).state = .attached ∨ (s.sessions.get (.client n)).state = .suspended) :
    RuleEffect p s (s.mapSession (.client n) (fun r => { r with pending := f r }))
  | opened {s : State} {n : Client} {b : FieldBlock} {k : Slot} (hp : p = .client n)
      (hst : (s.sessions.get (.client n)).state = .attached) (hvalid : openValid b = true)
      (htag : findTag (s.tagMaps.get (.client n)) b.tag = Option.none)
      (hquota : (s.tagMaps.get (.client n)).length < (s.sessions.get (.client n)).quota)
      (hrect : (blockRect b).within s.scan.width s.scan.height = true)
      (hclaim : s.claimOverlaps Option.none (blockRect b) b.layer.toNat = false) (hroom : s.poolFull = false)
      (hfree : s.table[k] = Option.none) :
    RuleEffect p s (s.createRegion k (.client n) b.tag .new
      (openFields b (grantedLease b.lease (s.sessions.get (.client n)).leaseMax)))
  | pinned {s : State} {b : FieldBlock} {k : Slot} (hp : p = .sup) (hvalid : pinValid b = true)
      (htag : findTag (s.tagMaps.get .sup) b.tag = Option.none) (hcount : s.pinnedCount < 8)
      (hrect : (blockRect b).within s.scan.width s.scan.height = true) (hrank : s.rankHeld b.rank.toNat = false)
      (hroom : s.poolFull = false) (hfree : s.table[k] = Option.none) :
    RuleEffect p s (s.createRegion k .sup b.tag .pin (pinFields b))
  | amended {s : State} {b : FieldBlock} {k : Slot} {r : Region} {f : StagedFields}
      (hf : f = clampedFields b (s.sessions.get p).leaseMax)
      (hst : p = .sup ∨ (s.sessions.get p).state = .attached) (hregion : s.regionByTag p b.tag = .ok (k, r))
      (hlive : r.state = .stagedNew ∨ r.state = .live) (hvalid : amendValid p b (s.prospectiveFill k r) = true)
      (hrect : ∀ q ∈ f.rect, q.within s.scan.width s.scan.height = true)
      (hclaim : p ≠ .sup → s.amendOverlaps k r f = false) (hroom : s.entryFor k = Option.none → s.poolFull = false) :
    RuleEffect p s (s.stageAmend k f)
  | renewed {s : State} {e : TagEntry} {k : Slot} {r : Region} (hp : p ≠ .sup) (he : e ∈ s.tagMaps.get p)
      (hk : e.slot = some k) (hr : s.table[k] = some r) (hlive : r.state = .live) :
    RuleEffect p s (s.putRegion k r.renew)
  | revived {s : State} {e : TagEntry} {k : Slot} {r : Region} (hp : p ≠ .sup) (he : e ∈ s.tagMaps.get p)
      (hk : e.slot = some k) (hr : s.table[k] = some r) (hlapsed : r.state = .lapsed)
      (hentry : s.entryFor k = Option.none) (hroom : s.poolFull = false) :
    RuleEffect p s (s.stage (reviveEntry k))
  | freed {s : State} {tag : Word16} {k : Slot} {r : Region} (hregion : s.regionByTag p tag = .ok (k, r))
      (hst : r.state = .stagedNew) : RuleEffect p s (s.freeStaged k p)
  | removal {s : State} {tag : Word16} {k : Slot} {r : Region} {kind : EntryKind}
      (hkind : kind = if p = .sup then .unpin else .release) (hsession : p = .sup ∨ (s.sessions.get p).state = .attached)
          (hregion : s.regionByTag p tag = .ok (k, r))
      (hst : r.state = .live ∨ r.state = .lapsed) (hroom : s.entryFor k = Option.none → s.poolFull = false) :
    RuleEffect p s (s.stageRemoval k r kind)
  | fetched (s : State) : RuleEffect p s (s.mapTags p (fetchMap Config.fetchLimit))
  | cursor {s : State} (c : Option Cursor) (hst : p = .sup ∨ (s.sessions.get p).state ≠ .detached) :
    RuleEffect p s (s.mapSession p (fun r => { r with cursor := c }))
  | scan {s : State} {c : Call} (hp : p = .sup) (hc : movesScan c = true) : RuleEffect p s (requestRule p c s).1
  | forced {s : State} (hp : p = .sup) (hst : s.scan.state = .stopped) : RuleEffect p s s.forceParts

/-- A rule whose answers are effects of requests from the port. -/
def RuleIsEffect (p : Port) (f : State → State × Reply) : Prop := ∀ s : State, RuleEffect p s (f s).1

theorem RuleEffect.raise (p : Port) (s : State) (a : Alert) : RuleEffect p s (s.raise a) :=
  .alert s _ (fun _ => by cases a <;> rfl)

theorem RuleEffect.raiseIf (p : Port) (s : State) (b : Bool) (a : Alert) : RuleEffect p s (s.raiseIf b a) := by
  cases b with
  | false => exact .none s
  | true => exact .raise p s a

/-! ### Session requests -/

theorem attachRequest_effect (p : Port) : RuleIsEffect p (attachRequest p) := by
  intro s
  cases p with
  | sup => exact .none s
  | client n =>
    cases hst : (s.sessions.get (.client n)).state with
    | detached => simpa [attachRequest, hst, State.mapSession] using RuleEffect.attach rfl hst
    | attached => simpa only [attachRequest, hst] using .none s
    | suspended => simpa only [attachRequest, hst] using .none s
    | draining => simpa only [attachRequest, hst] using .none s

theorem detachRequest_effect (p : Port) : RuleIsEffect p (detachRequest p) := by
  intro s
  cases p with
  | sup => exact .none s
  | client n =>
    cases hst : (s.sessions.get (.client n)).state with
    | detached => simpa only [detachRequest, hst] using .none s
    | draining => simpa only [detachRequest, hst] using .none s
    | attached => simp only [detachRequest, hst]; exact .depart (.inl rfl) (.inl hst)
    | suspended => simp only [detachRequest, hst]; exact .depart (.inl rfl) (.inr hst)

theorem RuleEffect.evict {s : State} {n : Client}
    (hst : (s.sessions.get (.client n)).state = .attached ∨ (s.sessions.get (.client n)).state = .suspended) :
    RuleEffect .sup s (s.evictClient n) :=
  .trans (.depart (.inr rfl) hst) (.evictedMark rfl (by simp [State.depart]))

theorem evictRequest_effect (c : Byte) : RuleIsEffect .sup (evictRequest c) := by
  intro s
  unfold evictRequest
  cases clientOf c with
  | none => exact .none s
  | some n =>
    dsimp only
    cases hst : (s.sessions.get (.client n)).state with
    | detached => exact .none s
    | draining => exact .none s
    | attached => exact .evict (.inl hst)
    | suspended => exact .evict (.inr hst)

theorem setLimitsRequest_effect (a b c d : Byte) : RuleIsEffect .sup (setLimitsRequest a b c d) := by
  intro s
  unfold setLimitsRequest
  cases clientOf a with
  | none => exact .none s
  | some n =>
    dsimp only
    split
    · exact .none s
    · next hvalid =>
      split
      · exact .none s
      · next hst =>
        split
        · exact .none s
        · next hsum => exact .limits rfl (by simpa using hvalid) (not_not.mp hst) (not_lt.mp hsum)

theorem changePending_effect (c : Byte) {f : SessionRecord → PendingChange}
    (hf : f = pendingAfterSuspend ∨ f = pendingAfterResume) : RuleIsEffect .sup (changePending c f) := by
  intro s
  unfold changePending
  cases clientOf c with
  | none => exact .none s
  | some n =>
    dsimp only
    cases hst : (s.sessions.get (.client n)).state with
    | detached => exact .none s
    | draining => exact .none s
    | attached => exact .pending rfl hf (.inl hst)
    | suspended => exact .pending rfl hf (.inr hst)

/-! ### Region requests -/

theorem openRequest_effect (p : Port) (b : FieldBlock) : RuleIsEffect p (openRequest p b) := by
  intro s
  cases p with
  | sup => unfold openRequest; dsimp only; split <;> exact .none s
  | client n =>
    simp only [openRequest, openClient]
    split
    · exact .none s
    · next hst =>
      split_ifs with _ hvalid htag hquota hrect _ hclaim hroom
      · exact .none s
      · exact .none s
      · exact .none s
      · exact .none s
      · exact .none s
      · exact .none s
      · exact .none s
      · exact .raise _ s _
      · cases hfree : s.lowestFree with
        | none => exact .none s
        | some k =>
          exact .opened rfl ((State.sessionRefusal_change hst).resolve_left (by simp)) (by simpa using hvalid)
            (by simpa using htag) (not_le.mp hquota) (by simpa using hrect) (by simpa using hclaim)
            (by simpa using hroom) (State.lowestFree_free hfree)

theorem pinRequest_effect (b : FieldBlock) : RuleIsEffect .sup (pinRequest b) := by
  intro s
  unfold pinRequest
  split_ifs with _ hvalid htag hcount hrect hrank hroom
  · exact .none s
  · exact .none s
  · exact .none s
  · exact .none s
  · exact .none s
  · exact .none s
  · exact .raise _ s _
  · cases hfree : s.lowestFree with
    | none => exact .none s
    | some k =>
      exact .pinned rfl (by simpa using hvalid) (by simpa using htag) (not_le.mp hcount) (by simpa using hrect)
        (by simpa using hrank) (by simpa using hroom) (State.lowestFree_free hfree)

theorem amendChecked_effect {p : Port} {b : FieldBlock} {k : Slot} {r : Region} {s : State}
    (hst : p = .sup ∨ (s.sessions.get p).state = .attached) (hregion : s.regionByTag p b.tag = .ok (k, r))
    (hlive : r.state = .stagedNew ∨ r.state = .live) : RuleEffect p s (amendChecked p b k r s).1 := by
  unfold amendChecked
  dsimp only
  split_ifs with hvalid hrect hlayer hclaim hroom
  · exact .none s
  · exact .none s
  · exact .none s
  · exact .none s
  · exact .raise _ s _
  · refine .amended rfl hst hregion hlive ?_ (fun q hq => ?_) (fun hp => ?_) (fun hnone => ?_)
    · cases p <;> simpa [amendValid] using hvalid
    · simpa [Option.mem_def.mp hq] using hrect
    · simpa [hp] using hclaim
    · simpa [hnone] using hroom

theorem amendRequest_effect (p : Port) (b : FieldBlock) : RuleIsEffect p (amendRequest p b) := by
  intro s
  unfold amendRequest
  split
  · exact .none s
  · next hsession =>
    have hst := State.sessionRefusal_change hsession
    split
    · exact .none s
    · next k r hregion =>
      cases hlive : r.state with
      | lapsed => exact .none s
      | retiring => exact .none s
      | stagedNew => exact amendChecked_effect hst hregion (.inl hlive)
      | live => exact amendChecked_effect hst hregion (.inr hlive)

theorem renewEntry_effect {n : Client} (a : RenewTally) {e : TagEntry} (he : e ∈ a.state.tagMaps.get (.client n)) :
    RuleEffect (.client n) a.state (renewEntry a e).state := by
  unfold renewEntry
  split
  · exact .none _
  · next k hk =>
    split
    · exact .none _
    · next r hr =>
      split
      · next hlive => exact .renewed (by simp) he hk hr hlive
      · exact .none _
      · exact .none _
      · next hlapsed =>
        split_ifs with hentry hroom
        · exact .none _
        · exact .none _
        · exact .revived (by simp) he hk hr hlapsed (by simpa using hentry) (by simpa using hroom)

/-- RENEW(0) moves no Tag Map (R61). -/
theorem renewEntry_tagMaps (a : RenewTally) (e : TagEntry) : (renewEntry a e).state.tagMaps = a.state.tagMaps := by
  unfold renewEntry
  split
  · rfl
  · split
    · rfl
    · split
      · rfl
      · rfl
      · rfl
      · split_ifs <;> rfl

theorem renewFold_effect {n : Client} (m : List TagEntry) (a : RenewTally)
    (hm : ∀ e ∈ m, e ∈ a.state.tagMaps.get (.client n)) :
    RuleEffect (.client n) a.state (m.foldl renewEntry a).state := by
  induction m generalizing a with
  | nil => exact .none _
  | cons e m ih =>
    obtain ⟨he, hm⟩ := List.forall_mem_cons.mp hm
    exact (renewEntry_effect a he).trans (ih _ (by rwa [renewEntry_tagMaps]))

theorem renewRegion_effect {n : Client} {tag : Word16} {k : Slot} {r : Region} {s : State}
    (hregion : s.regionByTag (.client n) tag = .ok (k, r)) : RuleEffect (.client n) s (renewRegion k r s).1 := by
  obtain ⟨-, hr, e, he, -, hk⟩ := State.regionByTag_ok hregion
  unfold renewRegion
  cases hst : r.state with
  | live => exact .renewed (by simp) he hk hr hst
  | stagedNew => exact .none s
  | retiring => exact .none s
  | lapsed =>
    dsimp only
    split_ifs with hentry hroom
    · exact .none s
    · exact .raise _ s _
    · exact .revived (by simp) he hk hr hst (by simpa using hentry) (by simpa using hroom)

theorem renewRequest_effect (p : Port) (tag : Word16) : RuleIsEffect p (renewRequest p tag) := by
  intro s
  cases p with
  | sup => exact .none s
  | client n =>
    unfold renewRequest
    dsimp only
    split
    · exact .none s
    · split
      · exact (renewFold_effect (s.tagMaps.get (.client n))
          { state := s, renewed := 0, revived := 0, incomplete := false } (fun _ he => he)).trans (.raiseIf _ _ _ _)
      · split
        · exact .none s
        · next hregion => exact renewRegion_effect hregion

theorem removeRegion_effect {p : Port} {tag : Word16} {k : Slot} {r : Region} {kind : EntryKind} {s : State}
    (hkind : kind = if p = .sup then .unpin else .release) (hsession : p = .sup ∨ (s.sessions.get p).state = .attached)
        (hregion : s.regionByTag p tag = .ok (k, r)) :
    RuleEffect p s (removeRegion p kind k r s).1 := by
  unfold removeRegion
  cases hst : r.state with
  | stagedNew => exact .freed hregion hst
  | retiring => exact .none s
  | live =>
    dsimp only
    split_ifs with hroom
    · exact .raise _ s _
    · exact .removal hkind hsession hregion (.inl hst) (fun hnone => by simpa [hnone] using hroom)
  | lapsed =>
    dsimp only
    split_ifs with hroom
    · exact .raise _ s _
    · exact .removal hkind hsession hregion (.inr hst) (fun hnone => by simpa [hnone] using hroom)

theorem releaseRequest_effect (p : Port) (tag : Word16) : RuleIsEffect p (releaseRequest p tag) := by
  intro s
  cases p with
  | sup => exact .none s
  | client n =>
    unfold releaseRequest
    dsimp only
    split
    · exact .none s
    · next hsession =>
      split
      · exact .none s
      · next hregion => exact removeRegion_effect rfl (State.sessionRefusal_change hsession) hregion

theorem unpinRequest_effect (tag : Word16) : RuleIsEffect .sup (unpinRequest tag) := by
  intro s
  unfold unpinRequest
  split
  · exact .none s
  · next hregion => exact removeRegion_effect rfl (.inl rfl) hregion

/-! ### Reads, notices and walks -/

theorem lookupRequest_effect (p : Port) (tag : Word16) : RuleIsEffect p (lookupRequest p tag) := by
  intro s
  unfold lookupRequest
  split
  · exact .none s
  · split <;> exact .none s

theorem lookupSlotRequest_effect (p : Port) (b : Byte) : RuleIsEffect p (lookupSlotRequest b) := by
  intro s
  unfold lookupSlotRequest
  split <;> exact .none s

theorem probeRequest_effect (p : Port) (x y : Word16) : RuleIsEffect p (probeRequest p x y) := by
  intro s
  unfold probeRequest
  split
  · exact .none s
  · split_ifs <;> exact .none s

theorem walkStartRequest_effect (p : Port) (b : Byte) : RuleIsEffect p (walkStartRequest p b) := by
  intro s
  unfold walkStartRequest
  split
  · exact .none s
  · next hst =>
    split
    · exact .none s
    · exact .cursor _ (State.sessionRefusal_none hst)

theorem walkNextRequest_effect (p : Port) : RuleIsEffect p (walkNextRequest p) := by
  intro s
  unfold walkNextRequest
  split
  · exact .none s
  · next hst =>
    split
    · exact .none s
    · exact .cursor _ (State.sessionRefusal_none hst)

theorem fetchNoticesRequest_effect (p : Port) : RuleIsEffect p (fetchNoticesRequest p) := by
  intro s
  unfold fetchNoticesRequest
  split
  · exact .none s
  · exact .fetched s

theorem fetchAlertsRequest_effect : RuleIsEffect .sup fetchAlertsRequest := fun s =>
  .trans (.alert s _ (fun h => absurd rfl h)) (.raiseIf _ _ _ _)

theorem setAlertMaskRequest_effect (m : Byte) : RuleIsEffect .sup (setAlertMaskRequest m) := by
  intro s
  unfold setAlertMaskRequest
  split
  · exact .none s
  · exact .alert s _ (fun h => absurd rfl h)

theorem forceCommitRequest_effect : RuleIsEffect .sup forceCommitRequest := by
  intro s
  unfold forceCommitRequest
  split
  · exact .none s
  · next hst => exact .forced rfl (not_not.mp hst)

/-- The rule of a request that its port may send has the effects of a request from that port. -/
theorem requestRule_effect {p : Port} {c : Call} (hp : Permitted p c) : RuleIsEffect p (requestRule p c) := by
  have sup (h : supervisorOnly c.kind = true) : p = .sup := hp.resolve_left (by simp [h])
  cases c with
  | attach => exact attachRequest_effect p
  | detach => exact detachRequest_effect p
  | openRegion b => exact openRequest_effect p b
  | amend b => exact amendRequest_effect p b
  | renew t => exact renewRequest_effect p t
  | release t => exact releaseRequest_effect p t
  | lookup t => exact lookupRequest_effect p t
  | probe x y => exact probeRequest_effect p x y
  | walkStart f => exact walkStartRequest_effect p f
  | walkNext => exact walkNextRequest_effect p
  | fetchNotices => exact fetchNoticesRequest_effect p
  | pin b => obtain rfl := sup rfl; exact pinRequest_effect b
  | unpin t => obtain rfl := sup rfl; exact unpinRequest_effect t
  | lookupSlot k => exact lookupSlotRequest_effect p k
  | setLimits c q l m => obtain rfl := sup rfl; exact setLimitsRequest_effect c q l m
  | suspend c => obtain rfl := sup rfl; exact changePending_effect c (.inl rfl)
  | resume c => obtain rfl := sup rfl; exact changePending_effect c (.inr rfl)
  | evict c => obtain rfl := sup rfl; exact evictRequest_effect c
  | forceCommit => obtain rfl := sup rfl; exact forceCommitRequest_effect
  | readStatus => exact fun s => .none s
  | fetchAlerts => obtain rfl := sup rfl; exact fetchAlertsRequest_effect
  | setAlertMask m => obtain rfl := sup rfl; exact setAlertMaskRequest_effect m
  | configure w h b g => exact fun s => .scan (sup rfl) rfl
  | start => exact fun s => .scan (sup rfl) rfl
  | hold => exact fun s => .scan (sup rfl) rfl
  | resumeScan => exact fun s => .scan (sup rfl) rfl
  | stop => exact fun s => .scan (sup rfl) rfl
  | clearTable => exact fun s => .scan (sup rfl) rfl
  | softReset => exact fun s => .scan (sup rfl) rfl

end Sys2Proof.Machine
end

section
/-! PROOFS. The parts of a commit, slot by slot and session by session (chapter 4): pool application, session application, the lease
count and presentation, each said once in the terms in which the statements are written. -/

namespace Sys2Proof.Machine

set_option Elab.async false

/-! ### Reading vectors at a slot -/

theorem getElem_set_slot {α : Type} (v : Vector α 64) (j k : Slot) (a : α) :
    (v.set j a)[k] = if j = k then a else v[k] := by
  rw [Fin.getElem_fin, Fin.getElem_fin, Vector.getElem_set]
  simp [Fin.val_inj]

theorem getElem_map_slot {α β : Type} (f : α → β) (v : Vector α 64) (k : Slot) : (v.map f)[k] = f v[k] := by
  simp

theorem getElem_ofFn_slot {α : Type} (f : Slot → α) (k : Slot) : (Vector.ofFn f)[k] = f k := by
  simp

/-! ### Slots that only become FREE, and their marks (R2, R123) -/

/-- No slot gains a region, and the mark of a slot is cleared exactly where its region goes. -/
def State.Shrinks (s t : State) : Prop :=
  ∀ k : Slot, (t.table[k].isSome = true → s.table[k].isSome = true)
    ∧ t.shown[k] = (s.shown[k] && (s.table[k].isNone || t.table[k].isSome))

theorem State.Shrinks.refl (s : State) : s.Shrinks s := fun k => by
  cases s.table[k] <;> simp

theorem State.Shrinks.trans {s t u : State} (h : s.Shrinks t) (h' : t.Shrinks u) : s.Shrinks u := by
  intro k
  obtain ⟨hst, hshown⟩ := h k
  obtain ⟨htu, hshown'⟩ := h' k
  refine ⟨fun hu => hst (htu hu), ?_⟩
  rw [hshown', hshown]
  cases hs : s.table[k] <;> cases ht : t.table[k] <;> cases hu : u.table[k] <;> simp_all

/-- A change that keeps every slot's occupancy and every mark. -/
theorem State.Shrinks.of_isSome_eq {s t : State} (h : ∀ k : Slot, t.table[k].isSome = s.table[k].isSome)
    (hshown : t.shown = s.shown) : s.Shrinks t := by
  intro k
  rw [h k, hshown]
  cases s.table[k] <;> simp

theorem foldl_shrinks {α : Type} {f : State → α → State} (h : ∀ (s : State) (a : α), s.Shrinks (f s a)) (l : List α) (s : State) :
    s.Shrinks (l.foldl f s) := by
  induction l generalizing s with
  | nil => exact .refl s
  | cons a l ih => exact (h s a).trans (ih _)

/-! ### Pool application (R72 to R77) -/

theorem Region.sourceStream_eq (r : Region) (o : Option Nat) :
    r.sourceStream o = if r.pinned then o else ownStream r.owner := by
  cases h : r.owner <;> simp [Region.sourceStream, Region.pinned, ownStream, h]

/-- What the entry of a kind makes of the region of its slot, in the rules' own words. -/
theorem afterEntry_new (k : Slot) (f : StagedFields) (r : Region) : afterEntry (some ⟨k, .new, f⟩) r = some (applyNew f r) := by
  have hstream : r.sourceStream none = ownStream r.owner := by
    cases h : r.owner <;> simp [Region.sourceStream, ownStream, h]
  simp only [afterEntry, applyNew, hstream]
  cases f.fallback <;> rfl

theorem afterEntry_pin (k : Slot) (f : StagedFields) (r : Region) :
    afterEntry (some ⟨k, .pin, f⟩) r = some (applyPin f r) := rfl

theorem afterEntry_amend (k : Slot) (f : StagedFields) (r : Region) :
    afterEntry (some ⟨k, .amend, f⟩) r = some (applyAmend f r) := by
  have hor {α : Type} (a b : Option α) : (if a.isSome then a else b) = a.or b := by cases a <;> rfl
  simp only [afterEntry, applyAmend, Region.sourceStream_eq, hor]
  cases f.fill with
  | none => cases f.fallback <;> simp
  | some v => cases v <;> cases f.fallback <;> simp

theorem applyEntry_of_none {s : State} {e : PoolEntry} (h : s.table[e.slot] = none) : applyEntry s e = s := by
  simp [applyEntry, h]

/-- An entry puts into its slot what it makes of the region there, or frees the slot (R72 to R77). -/
theorem applyEntry_of_some {s : State} {e : PoolEntry} {r : Region} (h : s.table[e.slot] = some r) :
    applyEntry s e =
      match afterEntry (some e) r with
      | some g => s.putRegion e.slot g
      | none => s.freeRegion e.slot r.owner := by
  obtain ⟨k, kind, f⟩ := e
  simp only at h
  cases kind with
  | new => simp [applyEntry, h, afterEntry_new]
  | pin => simp [applyEntry, h, afterEntry_pin]
  | amend => simp [applyEntry, h, afterEntry_amend]
  | revive => simp [applyEntry, h, afterEntry, applyRevive]
  | release => simp [applyEntry, h, afterEntry]
  | unpin => simp [applyEntry, h, afterEntry]

theorem applyEntry_table (s : State) (e : PoolEntry) (k : Slot) :
    (applyEntry s e).table[k] = if e.slot = k then s.table[k].bind (afterEntry (some e)) else s.table[k] := by
  cases h : s.table[e.slot] with
  | none =>
    rw [applyEntry_of_none h]
    split
    · next hk => rw [← hk, h]; rfl
    · rfl
  | some r =>
    rw [applyEntry_of_some h]
    by_cases hk : e.slot = k
    · rw [if_pos hk, ← hk, h, Option.bind_some]
      cases afterEntry (some e) r <;>
        simp only [State.putRegion, State.freeRegion, State.mapTags_table, State.freeSlot, getElem_set_slot, if_true]
    · cases afterEntry (some e) r <;>
        simp only [State.putRegion, State.freeRegion, State.mapTags_table, State.freeSlot, getElem_set_slot, hk, if_false]

/-- A region put where one stands. -/
theorem State.putRegion_shrinks {s : State} {k : Slot} {r g : Region} (h : s.table[k] = some r) :
    s.Shrinks (s.putRegion k g) := by
  refine .of_isSome_eq (fun j => ?_) rfl
  simp only [State.putRegion, getElem_set_slot]
  split
  · next hj => rw [← hj, h]; rfl
  · rfl

theorem State.freeRegion_shrinks {s : State} {k : Slot} {r : Region} (h : s.table[k] = some r) (x : Session) :
    s.Shrinks (s.freeRegion k x) := by
  intro j
  simp only [State.freeRegion, State.mapTags_table, State.mapTags_shown, State.freeSlot, getElem_set_slot]
  by_cases hj : k = j
  · rw [if_pos hj, if_pos hj, ← hj, h]
    simp
  · rw [if_neg hj, if_neg hj]
    cases s.table[j] <;> simp

theorem applyEntry_shrinks (s : State) (e : PoolEntry) : s.Shrinks (applyEntry s e) := by
  cases h : s.table[e.slot] with
  | none => rw [applyEntry_of_none h]; exact .refl s
  | some r =>
    rw [applyEntry_of_some h]
    split
    · exact State.putRegion_shrinks h
    · exact State.freeRegion_shrinks h _

@[simp] theorem applyEntry_sessions (s : State) (e : PoolEntry) : (applyEntry s e).sessions = s.sessions := by
  unfold applyEntry
  split
  · rfl
  · split <;> rfl

/-- The entry frees its region. -/
def PoolEntry.frees (e : PoolEntry) : Bool := decide (e.kind = .release ∨ e.kind = .unpin)

theorem afterEntry_eq_none_iff (e : PoolEntry) (r : Region) : afterEntry (some e) r = none ↔ e.frees = true := by
  obtain ⟨k, kind, f⟩ := e
  cases kind <;> simp [afterEntry, PoolEntry.frees]

theorem State.freeRegion_tagMaps (s : State) (k : Slot) (x y : Session) :
    (s.freeRegion k x).tagMaps.get y = if x = y then dropSlot (s.tagMaps.get y) k else s.tagMaps.get y := by
  by_cases h : x = y
  · subst h; simp [State.freeRegion, State.mapTags]
  · simp [State.freeRegion, State.mapTags, PerSession.get_set_of_ne _ _ (Ne.symm h), h]

/-- The entries that a freed slot leaves (R19). -/
theorem dropSlot_eq (m : List TagEntry) (k : Slot) : dropSlot m k = m.filter (fun e => decide (e.slot ≠ some k)) := by
  refine List.filter_congr (fun e _ => ?_)
  rw [Bool.eq_iff_iff]
  simp

theorem applyEntry_tagMaps (s : State) (e : PoolEntry) (x : Session) :
    (applyEntry s e).tagMaps.get x =
      if e.frees && s.table[e.slot].any (fun r => decide (r.owner = x)) then dropSlot (s.tagMaps.get x) e.slot
      else s.tagMaps.get x := by
  cases h : s.table[e.slot] with
  | none => simp [applyEntry_of_none h]
  | some r =>
    rw [applyEntry_of_some h]
    cases he : afterEntry (some e) r with
    | none => simp [State.freeRegion_tagMaps, (afterEntry_eq_none_iff e r).mp he]
    | some g =>
      have hfrees : e.frees = false := by
        by_contra hf
        simp [(afterEntry_eq_none_iff e r).mpr (by simpa using hf)] at he
      simp [hfrees]

/-- The entry of a slot in a list of entries. -/
def entryIn (l : List PoolEntry) (k : Slot) : Option PoolEntry := l.find? (fun e => e.slot == k)

theorem entryIn_cons (e : PoolEntry) (l : List PoolEntry) (k : Slot) :
    entryIn (e :: l) k = if e.slot = k then some e else entryIn l k := by
  unfold entryIn
  by_cases h : e.slot = k <;> simp [h]

theorem entryIn_eq_none {l : List PoolEntry} {k : Slot} : entryIn l k = none ↔ ∀ e ∈ l, e.slot ≠ k := by
  simp [entryIn]

theorem applyFold_table {l : List PoolEntry} (hl : l.Pairwise (fun a b => a.slot ≠ b.slot)) (s : State) (k : Slot) :
    (l.foldl applyEntry s).table[k] = s.table[k].bind (afterEntry (entryIn l k)) := by
  induction l generalizing s with
  | nil => rw [List.foldl_nil]; exact (Option.bind_fun_some s.table[k]).symm
  | cons e l ih =>
    obtain ⟨he, hl⟩ := List.pairwise_cons.mp hl
    rw [List.foldl_cons, ih hl, applyEntry_table, entryIn_cons]
    split
    · next h =>
      have hnone : entryIn l k = none := entryIn_eq_none.mpr (fun f hf => h ▸ (he f hf).symm)
      rw [hnone]
      cases s.table[k].bind (afterEntry (some e)) <;> rfl
    · rfl

/-- An entry of session x's map goes with the region that the list frees (R77). -/
def freedEntry (l : List PoolEntry) (s : State) (x : Session) (e : TagEntry) : Bool :=
  e.slot.any (fun k => s.table[k].any (fun r => decide (r.owner = x)) && (entryIn l k).any PoolEntry.frees)

theorem applyFold_tagMaps {l : List PoolEntry} (hl : l.Pairwise (fun a b => a.slot ≠ b.slot)) (s : State) (x : Session) :
    (l.foldl applyEntry s).tagMaps.get x = (s.tagMaps.get x).filter (fun e => !freedEntry l s x e) := by
  induction l generalizing s with
  | nil => simp [freedEntry, entryIn]
  | cons z l ih =>
    obtain ⟨hz, hl⟩ := List.pairwise_cons.mp hl
    have hnone : entryIn l z.slot = none := entryIn_eq_none.mpr (fun f hf => (hz f hf).symm)
    -- the entries that the head frees, and those that the rest frees
    have hsplit (e : TagEntry) : freedEntry (z :: l) s x e =
        ((z.frees && s.table[z.slot].any (fun r => decide (r.owner = x)) && decide (e.slot = some z.slot))
          || freedEntry l (applyEntry s z) x e) := by
      cases hk : e.slot with
      | none => simp [freedEntry, hk]
      | some k =>
        simp only [freedEntry, hk, Option.any_some, entryIn_cons, applyEntry_table]
        by_cases h : z.slot = k
        · subst h
          simp [hnone, Bool.and_comm]
        · simp [h, Ne.symm h]
    rw [List.foldl_cons, ih hl, applyEntry_tagMaps]
    split
    · next h =>
      rw [dropSlot_eq, List.filter_filter]
      refine List.filter_congr (fun e _ => ?_)
      rw [hsplit e, h, Bool.true_and, Bool.not_or, Bool.and_comm, decide_not]
    · next h =>
      refine List.filter_congr (fun e _ => ?_)
      rw [hsplit e, Bool.eq_false_of_not_eq_true h, Bool.false_and, Bool.false_or]

theorem State.applyPool_table {s : State} (hp : s.pool.Pairwise (fun a b => a.slot ≠ b.slot)) (k : Slot) :
    s.applyPool.table[k] = s.table[k].bind (afterEntry (s.entryFor k)) := applyFold_table hp s k

@[simp] theorem State.applyPool_sessions (s : State) : s.applyPool.sessions = s.sessions :=
  foldl_keeps applyEntry State.sessions applyEntry_sessions s.pool s

/-! ### Session application (R78, R79) -/

/-- A session's record after its pending change is applied (R78, R79). -/
def SessionRecord.settle (r : SessionRecord) : SessionRecord :=
  { r with state := r.stateAfter, pending := .noChange, cursor := if r.pending = .drain then none else r.cursor }

theorem applyPending_sessions (s : State) (n : Client) :
    (applyPending s n).sessions = s.sessions.set (.client n) (s.sessions.get (.client n)).settle := by
  unfold applyPending
  cases h : (s.sessions.get (.client n)).pending with
  | noChange =>
    have hsame : (s.sessions.get (.client n)).settle = s.sessions.get (.client n) := by
      generalize s.sessions.get (.client n) = r at h
      obtain ⟨state, quota, ceiling, leaseMax, pending, evicted, cursor⟩ := r
      simp only at h
      simp [SessionRecord.settle, SessionRecord.stateAfter, h]
    simp [hsame]
  | suspend => simp [SessionRecord.settle, SessionRecord.stateAfter, h, State.mapSession]
  | resume => simp [SessionRecord.settle, SessionRecord.stateAfter, h, State.mapSession]
  | drain => simp [SessionRecord.settle, SessionRecord.stateAfter, h, State.drain]

/-- The session has a DRAIN pending. -/
def State.drains (s : State) (x : Session) : Bool := decide (x ≠ .sup ∧ (s.sessions.get x).pending = .drain)

theorem applyPending_table (s : State) (n : Client) (k : Slot) :
    (applyPending s n).table[k] =
      s.table[k].bind (fun r => if r.owner = .client n ∧ s.drains (.client n) = true then none else some r) := by
  unfold applyPending
  cases h : (s.sessions.get (.client n)).pending with
  | drain =>
    simp only [State.drain, getElem_map_slot, State.drains, h]
    simp
  | noChange => simp [State.drains, h]
  | suspend => simp [State.drains, h, State.mapSession]
  | resume => simp [State.drains, h, State.mapSession]

theorem applyPending_tagMaps (s : State) (n : Client) (x : Session) :
    (applyPending s n).tagMaps.get x = if x = .client n ∧ s.drains (.client n) = true then [] else s.tagMaps.get x := by
  unfold applyPending
  cases h : (s.sessions.get (.client n)).pending with
  | drain =>
    by_cases hx : x = .client n
    · subst hx; simp [State.drain, State.drains, h]
    · simp [State.drain, hx, PerSession.get_set_of_ne _ _ hx]
  | noChange => simp [State.drains, h]
  | suspend => simp [State.drains, h]
  | resume => simp [State.drains, h]

theorem applyPending_shrinks (s : State) (n : Client) : s.Shrinks (applyPending s n) := by
  unfold applyPending
  cases (s.sessions.get (.client n)).pending with
  | drain =>
    intro k
    simp only [State.drain, getElem_map_slot, getElem_ofFn_slot, State.ownedBy]
    cases hk : s.table[k] with
    | none => simp
    | some r => by_cases h : r.owner = .client n <;> simp [h]
  | noChange => exact .refl s
  | suspend => exact .of_isSome_eq (fun _ => rfl) rfl
  | resume => exact .of_isSome_eq (fun _ => rfl) rfl

theorem applySessionsFold {l : List Client} (hl : l.Nodup) (s : State) :
    (∀ x : Session, (l.foldl applyPending s).sessions.get x =
        if ∃ n ∈ l, x = .client n then (s.sessions.get x).settle else s.sessions.get x)
      ∧ (∀ k : Slot, (l.foldl applyPending s).table[k] =
          s.table[k].bind (fun r => if (∃ n ∈ l, r.owner = .client n) ∧ s.drains r.owner = true then none else some r))
      ∧ ∀ x : Session, (l.foldl applyPending s).tagMaps.get x =
          if (∃ n ∈ l, x = .client n) ∧ s.drains x = true then [] else s.tagMaps.get x := by
  induction l generalizing s with
  | nil => simp
  | cons n l ih =>
    obtain ⟨hn, hl⟩ := List.nodup_cons.mp hl
    obtain ⟨hsessions, htable, htags⟩ := ih hl (applyPending s n)
    have hother (x : Session) (hx : x ≠ .client n) : (applyPending s n).sessions.get x = s.sessions.get x := by
      rw [applyPending_sessions, PerSession.get_set_of_ne _ _ hx]
    have hdrains (x : Session) (hx : x ≠ .client n) : (applyPending s n).drains x = s.drains x := by
      simp only [State.drains, hother x hx]
    have hself : ¬ ∃ m ∈ l, Session.client n = .client m := by simpa using hn
    refine ⟨fun x => ?_, fun k => ?_, fun x => ?_⟩
    · rw [List.foldl_cons, hsessions]
      by_cases hx : x = .client n
      · subst hx
        simp only [hself, if_false, applyPending_sessions, PerSession.get_set_self, List.mem_cons]
        simp
      · simp [hother x hx, hx]
    · rw [List.foldl_cons, htable, applyPending_table]
      cases s.table[k] with
      | none => rfl
      | some r =>
        by_cases hr : r.owner = .client n
        · have hself : ¬ ∃ m ∈ l, r.owner = .client m := by rw [hr]; exact hself
          cases hd : s.drains (.client n) <;> simp [hr, hd, hn]
        · simp [hr, hdrains r.owner hr]
    · rw [List.foldl_cons, htags, applyPending_tagMaps]
      by_cases hx : x = .client n
      · subst hx
        simp [hn]
      · simp [hx, hdrains x hx]

/-! ### Parts 1 and 2 together -/

theorem exists_mem_clients {x : Session} : (∃ n ∈ clients, x = .client n) ↔ x ≠ .sup := by
  cases x with
  | sup => simp
  | client n =>
    have hmem : ∀ m : Client, m ∈ clients := by decide
    simp [hmem]

theorem State.drains_ne_sup {s : State} {x : Session} (h : s.drains x = true) : x ≠ .sup := by
  simp only [State.drains, decide_eq_true_eq] at h
  exact h.1

section
variable {s : State}

theorem State.staged2_sessions (x : Session) :
    s.staged2.sessions.get x = if x = .sup then s.sessions.sup else (s.sessions.get x).settle := by
  obtain ⟨hsessions, -, -⟩ := applySessionsFold (l := clients) (by decide) s.applyPool
  refine (hsessions x).trans ?_
  simp only [exists_mem_clients, State.applyPool_sessions, ite_not]
  split
  · next h => subst h; rfl
  · rfl

theorem State.applyPool_drains : s.applyPool.drains = s.drains := by
  funext x
  simp only [State.drains, State.applyPool_sessions]

variable (hp : s.pool.Pairwise (fun a b => a.slot ≠ b.slot))
include hp

/-- The region of a slot after pool and session application is the one that the rules settle (R72 to R79). -/
theorem State.staged2_table (k : Slot) : s.staged2.table[k] = s.settledRegion k := by
  obtain ⟨-, htable, -⟩ := applySessionsFold (l := clients) (by decide) s.applyPool
  refine (htable k).trans ?_
  rw [State.applyPool_table hp, State.settledRegion]
  congr 1
  funext r
  simp only [exists_mem_clients, State.applyPool_drains]
  cases hr : r.owner <;> simp [State.drains]

/-- What pool and session application leave of a map (R77, R79). -/
theorem State.staged2_tagMaps (x : Session) :
    s.staged2.tagMaps.get x =
      if s.drains x then [] else (s.tagMaps.get x).filter (fun e => !freedEntry s.pool s x e) := by
  obtain ⟨-, -, htags⟩ := applySessionsFold (l := clients) (by decide) s.applyPool
  refine (htags x).trans ?_
  rw [State.applyPool_drains]
  by_cases hd : s.drains x = true
  · simp [hd, exists_mem_clients, State.drains_ne_sup hd]
  · rw [if_neg (fun h => hd h.2), if_neg hd]
    exact applyFold_tagMaps hp s x

end

theorem State.staged2_shrinks (s : State) : s.Shrinks s.staged2 :=
  (foldl_shrinks applyEntry_shrinks s.pool s).trans
    ((State.Shrinks.of_isSome_eq (fun _ => rfl) rfl).trans (foldl_shrinks applyPending_shrinks clients s.applyPool))

@[simp] theorem State.staged2_pool (s : State) : s.staged2.pool = [] :=
  foldl_keeps applyPending State.pool (fun t n => by unfold applyPending; split <;> rfl) clients s.applyPool

/-! ### The lease count (R80 to R84) -/

theorem poolExempts_eq {s : State} (hp : s.pool.Pairwise (fun a b => a.slot ≠ b.slot)) (k : Slot) :
    poolExempts s.pool k = s.passedOver k := by
  have hexempts (e : PoolEntry) : e.exempts =
      (decide (e.kind = .new ∨ e.kind = .revive) || (decide (e.kind = .amend) && e.fields.lease.isSome)) := by
    cases h : e.kind <;> simp [PoolEntry.exempts, h]
  unfold poolExempts State.passedOver State.entryFor
  simp only [← hexempts]
  revert hp
  induction s.pool with
  | nil => intro _; rfl
  | cons e l ih =>
    intro hp
    obtain ⟨he, hl⟩ := List.pairwise_cons.mp hp
    rw [List.any_cons, ih hl, List.find?_cons]
    by_cases hk : e.slot = k
    · have hnone : l.find? (fun z => z.slot == k) = none := by
        simpa using fun z hz => hk ▸ (he z hz).symm
      simp [hk, hnone]
    · simp [hk, beq_eq_false_iff_ne.mpr hk]

/-- The owner's session state that the lease count reads (R84). -/
theorem State.staged2_sessionState (s : State) (n : Client) :
    (s.staged2.sessions.get (.client n)).state = (s.sessions.get (.client n)).stateAfter := by
  rw [State.staged2_sessions]
  rfl

/-- The lease count of a commit does with a slot what the rules say of its settled region. -/
theorem State.countSlot_eq {s : State} (hp : s.pool.Pairwise (fun a b => a.slot ≠ b.slot)) (k : Slot) :
    s.staged2.countSlot s.pool k = s.countedRegion k := by
  unfold State.countSlot State.countedRegion
  rw [State.staged2_table hp]
  cases s.settledRegion k with
  | none => rfl
  | some r =>
    dsimp only
    rw [poolExempts_eq hp, State.staged2_scan]
    cases howner : r.owner with
    | sup => simp [countRegion, Region.pinned, howner]
    | client n =>
      rw [State.staged2_sessionState]
      dsimp only
      by_cases hst : (s.sessions.get (.client n)).stateAfter = .attached
      · simp only [countRegion, Region.pinned, howner, hst]
        cases hstate : r.state with
        | live =>
          cases hrem : r.remaining with
          | none => cases s.passedOver k <;> simp
          | some m =>
            rcases m with _ | _ | m <;> cases s.passedOver k <;> simp [lapse, howner]
        | lapsed =>
          cases hgrace : r.graceLeft with
          | none => simp
          | some g => rcases g with _ | _ | g <;> simp
        | stagedNew => simp
        | retiring => simp
      · simp [countRegion, hst]

/-- The entry of a map after the lease count, in the rules' own words (R81 to R83). -/
theorem countEntry_eq (c : Slot → Counted) (e : TagEntry) :
    countEntry c e =
      match e.slot.map c with
      | some (.lapsed _) => { e with notices := { e.notices with lapsed := true } }
      | some (.retired l) =>
        { e with slot := none, notices := { e.notices with lapsed := e.notices.lapsed || l, retired := true } }
      | _ => e := by
  unfold countEntry
  cases e.slot with
  | none => rfl
  | some k =>
    dsimp only [Option.map_some]
    cases c k with
    | free => rfl
    | kept r => rfl
    | lapsed r => rfl
    | retired l => cases l <;> simp [NoticeSet.withLapsed, NoticeSet.withRetired]

theorem lapse_ne_free (grace : Nat) (r : Region) : lapse grace r ≠ .free := by
  unfold lapse
  split <;> simp

/-- A region that is counted is kept, lapsed or retired. -/
theorem countRegion_ne_free (exempt : Bool) (owner : SessionState) (grace : Nat) (r : Region) :
    countRegion exempt owner grace r ≠ .free := by
  unfold countRegion
  split
  · simp
  · cases r.state with
    | live =>
      cases exempt with
      | true => simp
      | false => cases r.remaining with
        | none => simp
        | some n =>
          by_cases hn : n ≤ 1
          · simpa [hn] using lapse_ne_free grace r
          · simp [hn]
    | lapsed => cases r.graceLeft with
      | none => simp
      | some g => by_cases hg : g ≤ 1 <;> simp [hg]
    | stagedNew => simp
    | retiring => simp

theorem State.countLeases_shrinks (s : State) (pool : List PoolEntry) : s.Shrinks (s.countLeases pool) := by
  intro k
  simp only [State.countLeases, getElem_ofFn_slot]
  have hcount : (s.countSlot pool k).record.isSome = true → s.table[k].isSome = true := by
    unfold State.countSlot
    cases s.table[k] <;> simp [Counted.record]
  refine ⟨hcount, ?_⟩
  have hretired : (s.countSlot pool k).isRetired = (s.table[k].isSome && (s.countSlot pool k).record.isNone) := by
    unfold State.countSlot
    cases s.table[k] with
    | none => rfl
    | some r =>
      dsimp only
      cases h : countRegion (poolExempts pool k) (s.sessions.get r.owner).state s.scan.grace r with
      | free => exact absurd h (countRegion_ne_free _ _ _ r)
      | kept g => rfl
      | lapsed g => rfl
      | retired l => rfl
  rw [hretired]
  cases s.table[k] <;> cases (s.countSlot pool k).record <;> simp

/-! ### Presentation (R7, R89) -/

theorem State.present_table (s : State) (k : Slot) :
    s.present.table[k] =
      s.table[k].map (fun r => { r with presentation := presentationOf (s.sessions.get r.owner).state r }) :=
  getElem_map_slot _ _ _

theorem State.present_shrinks (s : State) : s.Shrinks s.present :=
  .of_isSome_eq (fun k => by rw [State.present_table, Option.isSome_map]) rfl

/-- The presentation of a region by its owner's settled session state, in the rules' own words. -/
theorem State.presentationOf_eq (s : State) (r : Region) :
    { r with presentation := presentationOf (s.staged2.sessions.get r.owner).state r } = s.presented r := by
  unfold State.presented presentationOf
  congr 1
  cases hstate : r.state with
  | stagedNew => rfl
  | lapsed => rfl
  | retiring => rfl
  | live =>
    cases howner : r.owner with
    | sup => simp [Region.pinned, howner]
    | client n =>
      rw [State.staged2_sessionState]
      cases hst : (s.sessions.get (.client n)).stateAfter <;> simp [Region.pinned, howner, hst]

end Sys2Proof.Machine
end

section
/-! PROOFS. Commits whole (chapter 4): what a VBLANK commit and a FORCE_COMMIT leave of slots, maps, sessions, alerts and the
Resolver, and the lapses and retirements that are commits. -/

namespace Sys2Proof.Machine

set_option Elab.async false

/-! ### What a commit leaves, block by block -/

/-- A record with its walk cursor marked (R93). -/
def SessionRecord.marked (r : SessionRecord) : SessionRecord :=
  { r with cursor := r.cursor.map (fun c => { c with changed := true }) }

@[simp] theorem State.markCursors_sessions (s : State) (x : Session) :
    s.markCursors.sessions.get x = (s.sessions.get x).marked := PerSession.get_make _ _

theorem State.commitParts_sessions (s : State) (x : Session) :
    s.commitParts.sessions.get x =
      (if x = .sup then s.sessions.sup else (s.sessions.get x).settle).marked := by
  rw [State.commitParts, State.markCursors_sessions, State.present_sessions,
    State.raiseLapsed_view State.sessions State.raiseIf_sessions, State.countLeases_sessions, State.staged2_sessions]

theorem State.forceParts_sessions (s : State) (x : Session) :
    s.forceParts.sessions.get x =
      (if x = .sup then s.sessions.sup else (s.sessions.get x).settle).marked := by
  rw [State.forceParts, State.markCursors_sessions, State.present_sessions, State.staged2_sessions]

@[simp] theorem State.commitParts_pool (s : State) : s.commitParts.pool = [] := by
  simp [State.commitParts, State.raiseLapsed_view State.pool State.raiseIf_pool]

@[simp] theorem State.forceParts_pool (s : State) : s.forceParts.pool = [] := by
  simp [State.forceParts]

theorem State.raiseLapsed_shrinks (before s : State) : s.Shrinks (before.raiseLapsed s) :=
  .of_isSome_eq (fun k => by rw [State.raiseLapsed_view State.table State.raiseIf_table])
    (State.raiseLapsed_view State.shown State.raiseIf_shown _ _)

theorem State.commitParts_shrinks (s : State) : s.Shrinks s.commitParts :=
  s.staged2_shrinks.trans ((s.staged2.countLeases_shrinks s.pool).trans
    ((State.raiseLapsed_shrinks s _).trans ((State.present_shrinks _).trans (.of_isSome_eq (fun _ => rfl) rfl))))

theorem State.forceParts_shrinks (s : State) : s.Shrinks s.forceParts :=
  s.staged2_shrinks.trans ((State.present_shrinks _).trans (.of_isSome_eq (fun _ => rfl) rfl))

section
variable {s : State} (hp : s.pool.Pairwise (fun a b => a.slot ≠ b.slot))
include hp

theorem State.commitParts_table (k : Slot) :
    s.commitParts.table[k] = (s.countedRegion k).record.map s.presented := by
  rw [State.commitParts, State.markCursors_table, State.present_table,
    State.raiseLapsed_view State.table State.raiseIf_table, State.raiseLapsed_view State.sessions State.raiseIf_sessions,
    State.countLeases_sessions]
  simp only [State.countLeases, getElem_ofFn_slot, State.countSlot_eq hp, State.presentationOf_eq]

theorem State.forceParts_table (k : Slot) : s.forceParts.table[k] = (s.settledRegion k).map s.presented := by
  rw [State.forceParts, State.markCursors_table, State.present_table, State.staged2_table hp]
  simp only [State.presentationOf_eq]

theorem State.commitParts_tagMaps (x : Session) :
    s.commitParts.tagMaps.get x =
      if s.drains x then []
      else ((s.tagMaps.get x).filter (fun e => !freedEntry s.pool s x e)).map (countEntry s.countedRegion) := by
  rw [State.commitParts, State.markCursors_tagMaps, State.present_tagMaps,
    State.raiseLapsed_view State.tagMaps State.raiseIf_tagMaps]
  have hcount : s.staged2.countSlot s.pool = s.countedRegion := funext (State.countSlot_eq hp)
  simp only [State.countLeases, PerSession.get_make, hcount, State.staged2_tagMaps hp]
  split <;> rfl

theorem State.forceParts_tagMaps (x : Session) :
    s.forceParts.tagMaps.get x =
      if s.drains x then [] else (s.tagMaps.get x).filter (fun e => !freedEntry s.pool s x e) := by
  rw [State.forceParts, State.markCursors_tagMaps, State.present_tagMaps, State.staged2_tagMaps hp]

/-- How many regions the lease count ends, by the rules' own count (R90). -/
theorem State.commitMaterial_eq :
    s.commitMaterial =
      (decide (s.pool ≠ []) || clients.any (fun n => decide ((s.sessions.get (.client n)).pending ≠ .noChange))
        || slots.any (fun k => (s.countedRegion k).expired) || s.scan.firstCommit) := by
  have hpool : (!s.pool.isEmpty) = decide (s.pool ≠ []) := by cases s.pool <;> simp
  have hpos {α : Type} (l : List α) (f : α → Bool) : decide (0 < (l.filter f).length) = l.any f := by
    rw [Bool.eq_iff_iff]
    simp [List.length_pos_iff_exists_mem]
  unfold State.commitMaterial State.pendingChanges State.expiries
  rw [hpos, hpos, hpool]
  simp only [State.countSlot_eq hp]

end

/-! ### CLIENT_LAPSED (R86) -/

/-- The Alert Set after raises of CLIENT_LAPSED for some clients: nothing but its client set and its pending flag is touched. -/
structure RaisesLapsed (a b : AlertSet) (named : Client → Bool) : Prop where
  clients : ∀ n : Client, b.clients[n] = (a.clients[n] || named n)
  pending : b.pending.clientLapsed = (a.pending.clientLapsed || Sys2Proof.Machine.clients.any named)
  rest : b = { a with clients := b.clients, pending := { a.pending with clientLapsed := b.pending.clientLapsed } }

theorem State.raiseIf_clientLapsed (s : State) (b : Bool) (m : Client) :
    (s.raiseIf b (.clientLapsed m)).alerts =
      { s.alerts with
        clients := Vector.ofFn (fun n => s.alerts.clients[n] || (decide (n = m) && b))
        pending := { s.alerts.pending with clientLapsed := s.alerts.pending.clientLapsed || b } } := by
  cases b with
  | false =>
    have h : Vector.ofFn (fun n : Client => s.alerts.clients[n]) = s.alerts.clients := by ext i hi; simp
    simp [State.raiseIf, -Fin.getElem_fin, h]
  | true =>
    have h : s.alerts.clients.set m true = Vector.ofFn (fun n : Client => s.alerts.clients[n] || decide (n = m)) := by
      ext i hi
      by_cases hm : m.val = i
      · simp [hm, ← Fin.val_inj]
      · simp [hm, ← Fin.val_inj, Ne.symm hm]
    simp [State.raiseIf, State.raise, AlertSet.raise, -Fin.getElem_fin, h]

theorem State.raiseLapsed_raises (before s : State) :
    RaisesLapsed s.alerts (before.raiseLapsed s).alerts
      (fun n => before.hasLive (.client n) && s.hasRegion (.client n) && !s.hasLive (.client n)) := by
  unfold State.raiseLapsed
  simp only [clients, List.foldl_cons, List.foldl_nil, State.raiseIf_clientLapsed]
  refine ⟨fun n => ?_, ?_, rfl⟩
  · simp only [Fin.getElem_fin, Vector.getElem_ofFn]
    fin_cases n <;> simp
  · simp [clients, Bool.or_assoc]

/-! ### A waiting commit, taken -/

theorem State.takeCommit_of_due {s : State} {f : Word16} {rest : List Word16} (h : s.commitsDue = f :: rest) :
    s.takeCommit = ({ s with commitsDue := rest } : State).vblankCommit f := by
  simp [State.takeCommit, h]

/-- What parts 1 to 4 of a commit decide, its resolve leaves (R71, R91). -/
theorem State.vblankCommit_parts (s : State) (f : Word16) :
    (s.vblankCommit f).table = s.commitParts.table ∧ (s.vblankCommit f).tagMaps = s.commitParts.tagMaps
      ∧ (s.vblankCommit f).pool = s.commitParts.pool ∧ (s.vblankCommit f).sessions = s.commitParts.sessions
      ∧ (s.vblankCommit f).shown = s.commitParts.shown ∧ (s.vblankCommit f).alerts = s.commitParts.alerts := by
  unfold State.vblankCommit
  split <;> exact ⟨rfl, rfl, rfl, rfl, rfl, rfl⟩

/-- A state is another but for what commits write. -/
theorem State.eq_of_outsideCommit {s t : State} (h : t.outsideCommit = s.outsideCommit) :
    t = { s with table := t.table, tagMaps := t.tagMaps, pool := t.pool, sessions := t.sessions, shown := t.shown,
                 scan := t.scan, resolver := t.resolver, alerts := t.alerts } := by
  simp only [State.outsideCommit, Prod.mk.injEq] at h
  obtain ⟨hfront, hlink, hports, hserved, hdue, hreset, hpending⟩ := h
  rw [← hfront, ← hlink, ← hports, ← hserved, ← hdue, ← hreset, ← hpending]

theorem exec_commit_of_due {s : State} {f : Word16} {rest : List Word16} (h : s.commitsDue = f :: rest) :
    exec .commit s = .next (({ s with commitsDue := rest } : State).vblankCommit f) :=
  congrArg Host.Outcome.next (State.takeCommit_of_due h)

/-- Settles O23: the slots are those of parts 1 to 4, and everything a commit does not name is outside it. -/
theorem commitActsSlotBySlot : Obligations.CommitActsSlotBySlot := by
  intro f rest s hdue hpool
  have hq : ({ s with commitsDue := rest } : State).pool.Pairwise (fun a b => a.slot ≠ b.slot) := hpool
  obtain ⟨htable, -, hpool', -, hshown, -⟩ := State.vblankCommit_parts { s with commitsDue := rest } f
  have hout := State.vblankCommit_outsideCommit { s with commitsDue := rest } f
  have hcommits := congrArg (fun z => z.2.2.2.2.1) hout
  refine ⟨_, exec_commit_of_due hdue, fun k => ?_, fun k => ?_, ?_, hcommits, ?_⟩
  · rw [htable]
    exact State.commitParts_table hq k
  · rw [htable, hshown]
    exact (State.commitParts_shrinks { s with commitsDue := rest } k).2
  · rw [hpool', State.commitParts_pool]
  · have heq := State.eq_of_outsideCommit hout
    rw [heq]

/-! ### The candidates of the resolve (R104 to R106) -/

theorem Region.candidate_eq (r : Region) (k : Slot) : r.candidate k = r.candidateOf k := by
  have hlevel : r.level = (match r.owner with
      | .client _ => r.layer.getD 0
      | .sup => 16 + r.rank.getD 0) := by
    cases h : r.owner <;> simp [Region.level, Region.pinned, h]
  have hpinned : r.pinned = decide (r.owner = .sup) := by
    cases h : r.owner <;> simp [Region.pinned, h]
  unfold Region.candidate Region.candidateOf Region.content
  simp only [hlevel, hpinned]
  cases r.presentation with
  | none => cases r.rect <;> rfl
  | fallback => cases r.rect <;> rfl
  | fill =>
    cases r.fill with
    | none => cases r.rect <;> rfl
    | some v => cases v <;> cases r.rect <;> rfl

theorem SessionRecord.settle_of_drain {r : SessionRecord} (h : r.pending = .drain) :
    r.settle.marked = { r with state := .detached, pending := .noChange, cursor := none } := by
  simp [SessionRecord.settle, SessionRecord.marked, SessionRecord.stateAfter, h]

theorem SessionRecord.settle_of_not_drain {r : SessionRecord} (h : r.pending ≠ .drain) :
    r.settle = { r with state := r.stateAfter, pending := .noChange } := by
  simp [SessionRecord.settle, h]

/-- A client's record after a commit, in the rules' own words (R78, R79, R93). -/
theorem SessionRecord.settle_marked (r : SessionRecord) :
    r.settle.marked =
      if r.pending = .drain then { r with state := .detached, pending := .noChange, cursor := none }
      else SessionRecord.marked { r with state := r.stateAfter, pending := .noChange } := by
  split
  · next h => exact SessionRecord.settle_of_drain h
  · next h => rw [SessionRecord.settle_of_not_drain h]

/-- Settles O24: sessions by part 2, and the resolve by whether the commit is material. -/
theorem commitSettlesSessionsAndStartsResolve : Obligations.CommitSettlesSessionsAndStartsResolve := by
  intro f rest s hdue hpool material marked
  have hq : ({ s with commitsDue := rest } : State).pool.Pairwise (fun a b => a.slot ≠ b.slot) := hpool
  have hmaterial : ({ s with commitsDue := rest } : State).commitMaterial = material := State.commitMaterial_eq hq
  obtain ⟨-, -, -, hsessions, -, -⟩ := State.vblankCommit_parts { s with commitsDue := rest } f
  refine ⟨_, exec_commit_of_due hdue, fun n => ?_, ?_, ?_, ?_⟩
  · rw [hsessions, State.commitParts_sessions]
    exact SessionRecord.settle_marked _
  · have hsup := State.commitParts_sessions { s with commitsDue := rest } .sup
    rw [← hsessions] at hsup
    exact hsup
  · rw [State.vblankCommit_scan, hmaterial]
  · unfold State.vblankCommit
    rw [hmaterial]
    split
    · simp only [State.startResolve, State.resolveJob, State.candidates, State.commitParts_scan, Region.candidate_eq]
    · exact State.commitParts_resolver _

/-! ### Notices and alerts of a commit -/

theorem State.hasLive_iff {s : State} {x : Session} :
    s.hasLive x = true ↔ ∃ k : Slot, ∃ r ∈ s.table[k], r.owner = x ∧ r.state = .live := by
  simp [State.hasLive, State.ownedIn, slots, Option.any_eq_true]

theorem State.hasRegion_iff {s : State} {x : Session} :
    s.hasRegion x = true ↔ ∃ k : Slot, ∃ r ∈ s.table[k], r.owner = x := by
  simp [State.hasRegion, State.ownedBy, slots, Option.any_eq_true]

/-- Presentations and cursor marks change no owner and no state, so who owns what is as the lease count leaves it. -/
theorem State.commitParts_owned (s : State) (Q : Region → Prop)
    (hQ : ∀ (r : Region) (v : Presentation), Q { r with presentation := v } ↔ Q r) :
    (∃ k : Slot, ∃ r ∈ (s.staged2.countLeases s.pool).table[k], Q r) ↔ ∃ k : Slot, ∃ r ∈ s.commitParts.table[k], Q r := by
  simp only [State.commitParts, State.markCursors_table, State.present_table,
    State.raiseLapsed_view State.table State.raiseIf_table, Option.mem_def, Option.map_eq_some_iff]
  refine exists_congr fun k => ⟨fun ⟨r, hr, h⟩ => ⟨_, ⟨r, hr, rfl⟩, (hQ r _).mpr h⟩, ?_⟩
  rintro ⟨_, ⟨r, hr, rfl⟩, h⟩
  exact ⟨r, hr, (hQ r _).mp h⟩

theorem State.commitParts_alerts (s : State) :
    RaisesLapsed s.alerts s.commitParts.alerts
      (fun n => s.hasLive (.client n) && (s.staged2.countLeases s.pool).hasRegion (.client n)
        && !(s.staged2.countLeases s.pool).hasLive (.client n)) := by
  have h := State.raiseLapsed_raises s (s.staged2.countLeases s.pool)
  rwa [State.countLeases_alerts, State.staged2_alerts] at h

theorem freedEntry_eq (s : State) (x : Session) (e : TagEntry) :
    freedEntry s.pool s x e =
      e.slot.any (fun k =>
        s.table[k].any (fun r => decide (r.owner = x))
          && (s.entryFor k).any (fun z => decide (z.kind = .release ∨ z.kind = .unpin))) := rfl

/-- Settles O25: the map of each session after parts 1 to 3, and the raises of CLIENT_LAPSED. -/
theorem commitNotifiesOwnersAndSupervisor : Obligations.CommitNotifiesOwnersAndSupervisor := by
  intro f rest s hdue hpool removed counted
  let q : State := { s with commitsDue := rest }
  have hq : q.pool.Pairwise (fun a b => a.slot ≠ b.slot) := hpool
  obtain ⟨htable, htags, -, -, -, halerts⟩ := State.vblankCommit_parts q f
  refine ⟨q.vblankCommit f, exec_commit_of_due hdue, fun x => ?_, ?_⟩
  · have hcount : countEntry q.countedRegion = counted := funext (countEntry_eq q.countedRegion)
    rw [htags, State.commitParts_tagMaps hq, hcount]
    exact if_congr decide_eq_true_iff rfl rfl
  · intro owns lapsed
    obtain ⟨hclients, hpending, hrest⟩ := q.commitParts_alerts
    have hlapsed (n : Client) :
        (q.hasLive (.client n) && (q.staged2.countLeases q.pool).hasRegion (.client n)
          && !(q.staged2.countLeases q.pool).hasLive (.client n)) = true ↔ lapsed n := by
      rw [Bool.and_eq_true, Bool.and_eq_true, Bool.not_eq_true', ← Bool.not_eq_true, State.hasLive_iff, State.hasLive_iff,
        State.hasRegion_iff, State.commitParts_owned q (fun r => r.owner = .client n) (fun _ _ => Iff.rfl),
        State.commitParts_owned q (fun r => r.owner = .client n ∧ r.state = .live) (fun _ _ => Iff.rfl), and_assoc]
      simp only [lapsed, owns, htable, true_imp_iff, Bool.false_eq_true, false_imp_iff, and_true]
      exact Iff.rfl
    rw [halerts]
    refine ⟨fun n => ?_, ?_, hrest⟩
    · rw [hclients, Bool.or_eq_true, hlapsed]
    · rw [hpending, Bool.or_eq_true, List.any_eq_true]
      simp only [hlapsed]
      exact or_congr Iff.rfl ⟨fun ⟨n, _, h⟩ => ⟨n, h⟩, fun ⟨n, h⟩ => ⟨n, by fin_cases n <;> simp [clients], h⟩⟩

/-! ### Lapses and retirements that are commits (R80 to R84) -/

theorem afterEntry_owner {e : Option PoolEntry} {r g : Region} (h : afterEntry e g = some r) : r.owner = g.owner := by
  match e with
  | none => cases h; rfl
  | some ⟨_, kind, _⟩ => cases kind <;> cases h <;> rfl

theorem State.countedRegion_of_none {s : State} {k : Slot} (h : s.settledRegion k = none) : s.countedRegion k = .free := by
  simp [State.countedRegion, h]

/-- A region that parts 1 and 2 leave in its slot has an entry that does not free it and an owner that does not depart. -/
theorem State.survives_of_settled {s : State} {k : Slot} {g r : Region} (hg : s.table[k] = some g)
    (h : s.settledRegion k = some r) :
    s.drains g.owner = false ∧ (s.entryFor k).any PoolEntry.frees = false ∧ r.owner = g.owner := by
  unfold State.settledRegion at h
  rw [hg, Option.bind_some, Option.bind_eq_some_iff] at h
  obtain ⟨r', hafter, hkept⟩ := h
  have howner := afterEntry_owner hafter
  have hfrees : (s.entryFor k).any PoolEntry.frees = false := by
    cases he : s.entryFor k with
    | none => rfl
    | some e =>
      cases hf : e.frees with
      | false => exact hf
      | true => rw [he, (afterEntry_eq_none_iff e g).mpr hf] at hafter; cases hafter
  rw [← howner]
  cases ho : r'.owner with
  | sup =>
    simp only [ho, Option.some.injEq] at hkept
    exact ⟨rfl, hfrees, hkept ▸ ho⟩
  | client n =>
    simp only [ho] at hkept
    split at hkept
    · cases hkept
    · next hd =>
      obtain rfl := Option.some.inj hkept
      exact ⟨by simp [State.drains, hd], hfrees, ho⟩

/-- An entry whose region the count finds is in its map after the commit, with what the count notices (R81 to R83). -/
theorem State.countEntry_mem_commitParts {s : State} (hp : s.pool.Pairwise (fun a b => a.slot ≠ b.slot)) {k : Slot}
    (hk : s.countedRegion k ≠ .free) {g : Region} (hg : s.table[k] = some g) {e : TagEntry}
    (he : e ∈ s.tagMaps.get g.owner) (hslot : e.slot = some k) :
    countEntry s.countedRegion e ∈ s.commitParts.tagMaps.get g.owner := by
  cases hsettled : s.settledRegion k with
  | none => exact absurd (State.countedRegion_of_none hsettled) hk
  | some r =>
    obtain ⟨hdrains, hfrees, -⟩ := State.survives_of_settled hg hsettled
    rw [State.commitParts_tagMaps hp, hdrains]
    refine List.mem_map_of_mem (List.mem_filter.mpr ⟨he, ?_⟩)
    rw [freedEntry_eq, hslot]
    have hremoved : (s.entryFor k).any (fun z => decide (z.kind = .release ∨ z.kind = .unpin)) = false := hfrees
    rw [Option.any_some, hremoved, Bool.and_false]
    rfl

theorem State.countedRegion_lapsed_state {s : State} {k : Slot} {r : Region} (h : s.countedRegion k = .lapsed r) :
    r.state = .lapsed := by
  unfold State.countedRegion at h
  split at h
  · cases h
  · split at h
    · cases h
    · split at h
      · cases h
      · split at h
        · cases h
        · split at h
          · cases h
          · split at h
            · cases h
            · cases h; rfl
        all_goals cases h

theorem State.presented_of_lapsed {s : State} {r : Region} (h : r.state = .lapsed) :
    s.presented r = { r with presentation := .none } := by
  simp [State.presented, h]

section
variable {s : State} (hp : s.pool.Pairwise (fun a b => a.slot ≠ b.slot)) {k : Slot}
include hp

theorem State.lapsesAt_iff : s.lapsesAt k = true ↔ (∃ r, s.countedRegion k = .lapsed r) ∨ s.countedRegion k = .retired true := by
  unfold State.lapsesAt
  rw [State.countSlot_eq hp]
  cases s.countedRegion k <;> simp

theorem State.graceEndsAt_iff : s.graceEndsAt k = true ↔ s.countedRegion k = .retired false := by
  unfold State.graceEndsAt
  rw [State.countSlot_eq hp]
  cases s.countedRegion k <;> simp

theorem exec_leaseLapse_of_lapses
    (h : (∃ r, s.countedRegion k = .lapsed r) ∨ s.countedRegion k = .retired true) :
    exec (.leaseLapse k) s = exec .commit s :=
  congrArg Host.Outcome.next (if_pos ((State.lapsesAt_iff hp).mpr h))

theorem exec_leaseLapse_of_not (h : ∀ r, s.countedRegion k ≠ .lapsed r) (h' : s.countedRegion k ≠ .retired true) :
    exec (.leaseLapse k) s = .next s :=
  congrArg Host.Outcome.next (if_neg (fun hl => ((State.lapsesAt_iff hp).mp hl).elim (fun ⟨r, hr⟩ => h r hr) h'))

theorem exec_graceRetire_of_retires (h : s.countedRegion k = .retired false) :
    exec (.graceRetire k) s = exec .commit s :=
  congrArg Host.Outcome.next (if_pos ((State.graceEndsAt_iff hp).mpr h))

theorem exec_graceRetire_of_not (h : s.countedRegion k ≠ .retired false) : exec (.graceRetire k) s = .next s :=
  congrArg Host.Outcome.next (if_neg (fun hl => h ((State.graceEndsAt_iff hp).mp hl)))

end

/-- What a waiting commit leaves of a slot that the count ends, and the notice of each entry that named it. -/
theorem exec_commit_counted {s : State} {f : Word16} {rest : List Word16} (hdue : s.commitsDue = f :: rest)
    (hp : s.pool.Pairwise (fun a b => a.slot ≠ b.slot)) {k : Slot} (hk : s.countedRegion k ≠ .free) :
    ∃ t : State, exec .commit s = .next t ∧ t.table[k] = (s.countedRegion k).record.map s.presented
      ∧ t.shown[k] = (s.shown[k] && (s.table[k].isNone || t.table[k].isSome))
      ∧ s.table[k].isSome = true
      ∧ ∀ g ∈ s.table[k], ∀ e ∈ s.tagMaps.get g.owner, e.slot = some k →
          countEntry s.countedRegion e ∈ t.tagMaps.get g.owner := by
  let q : State := { s with commitsDue := rest }
  have hq : q.pool.Pairwise (fun a b => a.slot ≠ b.slot) := hp
  obtain ⟨htable, htags, -, -, hshown, -⟩ := State.vblankCommit_parts q f
  refine ⟨q.vblankCommit f, exec_commit_of_due hdue, ?_, ?_, ?_, ?_⟩
  · rw [htable]; exact State.commitParts_table hq k
  · rw [htable, hshown]; exact (q.commitParts_shrinks k).2
  · cases htab : s.table[k] with
    | some _ => rfl
    | none => exact absurd (State.countedRegion_of_none (by simp [State.settledRegion, htab])) hk
  · intro g hg e he hslot
    rw [htags]
    exact State.countEntry_mem_commitParts hq hk hg he hslot

/-- The count of an ATTACHED client's region that no entry and no pending change touches (R80 to R83). -/
theorem State.countedRegion_untouched {s : State} {k : Slot} {r : Region} {n : Client} (hr : s.table[k] = some r)
    (howner : r.owner = .client n) (hattached : (s.sessions.get (.client n)).state = .attached)
    (hpending : (s.sessions.get (.client n)).pending = .noChange) (hentry : s.entryFor k = none) :
    (r.state = .live → r.remaining = some 1 → s.countedRegion k =
        if s.scan.grace = 0 then .retired true
        else .lapsed { r with state := .lapsed, remaining := some 0, graceLeft := some s.scan.grace })
      ∧ (r.state = .lapsed → r.graceLeft = some 1 → s.countedRegion k = .retired false) := by
  have hsettled : s.settledRegion k = some r := by
    simp [State.settledRegion, hr, hentry, afterEntry, howner, hpending]
  have hafter : (s.sessions.get (.client n)).stateAfter = .attached := by
    simp [SessionRecord.stateAfter, hpending, hattached]
  constructor
  · intro hstate hremaining
    simp [State.countedRegion, hsettled, howner, hafter, hstate, hremaining, State.passedOver, hentry]
  · intro hstate hgrace
    simp [State.countedRegion, hsettled, howner, hafter, hstate, hgrace]

theorem lapseTakesTheCommit {k : Slot} {f : Word16} {rest : List Word16} {s : State} (hdue : s.commitsDue = f :: rest)
    (hp : s.pool.Pairwise (fun a b => a.slot ≠ b.slot)) {r : Region} (h : s.countedRegion k = .lapsed r) :
    ∃ t : State,
      exec (.leaseLapse k) s = .next t ∧ exec .commit s = .next t ∧ t.table[k] = some { r with presentation := .none }
        ∧ ∀ g ∈ s.table[k], ∀ e ∈ s.tagMaps.get g.owner, e.slot = some k →
            { e with notices := { e.notices with lapsed := true } } ∈ t.tagMaps.get g.owner := by
  obtain ⟨t, hexec, htable, -, -, hnoticed⟩ := exec_commit_counted hdue hp (k := k) (by rw [h]; exact nofun)
  refine ⟨t, (exec_leaseLapse_of_lapses hp (.inl ⟨r, h⟩)).trans hexec, hexec, ?_, fun g hg e he hslot => ?_⟩
  · rw [htable, h]
    exact congrArg some (State.presented_of_lapsed (State.countedRegion_lapsed_state h))
  · simpa [countEntry, hslot, h, NoticeSet.withLapsed] using hnoticed g hg e he hslot

theorem retirementTakesTheCommit {k : Slot} {f : Word16} {rest : List Word16} {s : State} (hdue : s.commitsDue = f :: rest)
    (hp : s.pool.Pairwise (fun a b => a.slot ≠ b.slot)) {l : Bool} (h : s.countedRegion k = .retired l) :
    ∃ t : State,
      exec (if l then .leaseLapse k else .graceRetire k) s = .next t ∧ exec .commit s = .next t ∧ t.table[k] = none
        ∧ t.shown[k] = false
        ∧ ∀ g ∈ s.table[k], ∀ e ∈ s.tagMaps.get g.owner, e.slot = some k →
            { e with slot := none, notices := { e.notices with lapsed := e.notices.lapsed || l, retired := true } }
              ∈ t.tagMaps.get g.owner := by
  obtain ⟨t, hexec, htable, hshown, hsome, hnoticed⟩ := exec_commit_counted hdue hp (k := k) (by rw [h]; exact nofun)
  have hfree : t.table[k] = none := by rw [htable, h]; rfl
  refine ⟨t, ?_, hexec, hfree, ?_, fun g hg e he hslot => ?_⟩
  · cases l with
    | false => exact (exec_graceRetire_of_retires hp h).trans hexec
    | true => exact (exec_leaseLapse_of_lapses hp (.inr h)).trans hexec
  · obtain ⟨g, hg⟩ := Option.isSome_iff_exists.mp hsome
    simp [hshown, hfree, hg]
  · have he' := hnoticed g hg e he hslot
    rw [countEntry_eq, hslot] at he'
    simpa [h] using he'

/-- Settles O26: the lapse or the retirement of a slot is the commit whose count ends the slot. -/
theorem lapseAndRetireTakeTheCommit : Obligations.LapseAndRetireTakeTheCommit := by
  constructor
  · intro k f rest s hdue hp noticed
    refine ⟨fun r h => lapseTakesTheCommit hdue hp h, fun h => ?_, fun h => ?_⟩
    · obtain ⟨t, hrow, hcommit, hfree, hshown, hnoticed⟩ := retirementTakesTheCommit hdue hp h
      refine ⟨t, hrow, hcommit, hfree, hshown, fun g hg e he hslot => ?_⟩
      simpa using hnoticed g hg e he hslot
    · obtain ⟨t, hrow, hcommit, hfree, hshown, hnoticed⟩ := retirementTakesTheCommit hdue hp h
      refine ⟨t, hrow, hcommit, hfree, hshown, fun g hg e he hslot => ?_⟩
      simpa using hnoticed g hg e he hslot
  · intro n k r e f rest s hdue hr howner hattached hpending hp hentry he hslot
    obtain ⟨hlive, hlapsed⟩ := State.countedRegion_untouched hr howner hattached hpending hentry
    rw [← howner] at he ⊢
    refine ⟨fun hstate hremaining => ?_, fun hstate hgrace => ?_⟩
    · have hcount := hlive hstate hremaining
      by_cases hgrace : s.scan.grace = 0
      · rw [if_pos hgrace] at hcount
        obtain ⟨t, hrow, hcommit, hfree, hshown, hnoticed⟩ := retirementTakesTheCommit hdue hp hcount
        refine ⟨t, hrow, hcommit, fun h => absurd hgrace h, fun _ => ⟨hfree, hshown, ?_⟩⟩
        simpa using hnoticed r hr e he hslot
      · rw [if_neg hgrace] at hcount
        obtain ⟨t, hrow, hcommit, htable, hnoticed⟩ := lapseTakesTheCommit hdue hp hcount
        exact ⟨t, hrow, hcommit, fun _ => ⟨htable, hnoticed r hr e he hslot⟩, fun h => absurd h hgrace⟩
    · obtain ⟨t, hrow, hcommit, hfree, hshown, hnoticed⟩ := retirementTakesTheCommit hdue hp (hlapsed hstate hgrace)
      refine ⟨t, hrow, hcommit, hfree, hshown, ?_⟩
      simpa using hnoticed r hr e he hslot

/-! ### FORCE_COMMIT (R94, R95) -/

theorem State.forceParts_outside (s : State) :
    s.forceParts = { s with table := s.forceParts.table, tagMaps := s.forceParts.tagMaps, pool := []
                            sessions := s.forceParts.sessions, shown := s.forceParts.shown } := by
  have hout : s.forceParts.outsideCommit = s.outsideCommit := by
    rw [State.forceParts, State.markCursors_outsideCommit, State.present_outsideCommit, State.staged2_outsideCommit]
  rw [State.eq_of_outsideCommit hout, State.forceParts_pool]
  have hscan : s.forceParts.scan = s.scan := by
    rw [State.forceParts, State.markCursors_scan, State.present_scan, State.staged2_scan]
  have hresolver : s.forceParts.resolver = s.resolver := by
    rw [State.forceParts, State.markCursors_resolver, State.present_resolver, State.staged2_resolver]
  have halerts : s.forceParts.alerts = s.alerts := by
    rw [State.forceParts, State.markCursors_alerts, State.present_alerts, State.staged2_alerts]
  simp only [hscan, hresolver, halerts]

theorem State.forceParts_freed (s : State) :
    s.freedBy s.staged2 = (slots.filter (fun k => s.table[k].isSome && s.forceParts.table[k].isNone)).length := by
  simp only [State.freedBy, State.forceParts, State.markCursors_table, State.present_table, Option.isNone_map]

theorem forceCommitRequest_of_stopped {s : State} (h : s.scan.state = .stopped) :
    forceCommitRequest s = accept s.forceParts (.committed s.forceSummary) := if_neg (not_not_intro h)

theorem forceCommitRequest_of_not_stopped {s : State} (h : s.scan.state ≠ .stopped) :
    forceCommitRequest s = refuse s .scanState := if_pos h

/-- Settles O27: parts 1, 2 and 4 alone, and the summary counted over what they leave. -/
theorem forceCommitCountsNoLease : Obligations.ForceCommitCountsNoLease := by
  intro q s r hchoice hp changes marked
  have hexec := exec_eq_answered (c := .forceCommit .sup q) (r := r) rfl hchoice (.inl nofun)
  rw [requestOutcome_of_permitted (.inr rfl)] at hexec
  refine ⟨fun h => ?_, fun h => ⟨s.forceParts, ?_, ?_, ?_, ?_, ?_, ?_, ?_⟩⟩
  · rw [hexec, show requestRule .sup r.call s = refuse s .scanState from forceCommitRequest_of_not_stopped h]
    rfl
  · rw [hexec, show requestRule .sup r.call s = accept s.forceParts (.committed s.forceSummary) from
      forceCommitRequest_of_stopped h]
    have hpool : (!s.pool.isEmpty) = decide (s.pool ≠ []) := by cases s.pool <;> simp
    have hchanges : decide (0 < s.pendingChanges) = decide (changes ≠ 0) := by
      simp [State.pendingChanges, changes, Nat.pos_iff_ne_zero]
    simp only [accept, okReply, State.forceSummary, State.forceParts_freed, hpool, hchanges]
    rfl
  · exact s.forceParts_outside
  · exact State.forceParts_table hp
  · exact fun k => (s.forceParts_shrinks k).2
  · exact fun n => (s.forceParts_sessions (.client n)).trans (SessionRecord.settle_marked _)
  · exact s.forceParts_sessions .sup
  · intro x
    rw [State.forceParts_tagMaps hp]
    exact if_congr decide_eq_true_iff rfl rfl

end Sys2Proof.Machine
end

section
/-! PROOFS. The scan requests (chapter 7) and the pin RESET_N: what each leaves of the part, and what it answers. -/

namespace Sys2Proof.Machine

set_option Elab.async false

/-! ### A request taken, by its rule -/

/-- A permitted request that is chosen: its rule's state and reply, answered at its port. -/
theorem exec_taken {c : Instr} {p : Port} {r : Request} {s u : State} {y : Reply} (hc : c.request = some (p, r))
    (hchoice : s.choice = some (p, r)) (hp : Permitted p r.call) (hr : r.call ≠ .softReset ∨ p ≠ .sup)
    (hrule : requestRule p r.call s = (u, y)) : exec c s = .next (u.answered p r y) := by
  rw [exec_eq_answered hc hchoice hr, requestOutcome_of_permitted hp, hrule]

/-- The response of a request taken stands last in its port's queue. -/
theorem State.answered_getLast (s : State) (p : Port) (r : Request) (y : Reply) :
    ((s.answered p r y).ports.get p).responses.getLast? = some { kind := r.call.kind, seq := r.seq, reply := y } := by
  simp [State.answered]

@[simp] theorem refuse_eq (s : State) (c : ResultCode) : refuse s c = (s, plainReply c) := rfl

@[simp] theorem accept_eq (s : State) (b : Body) : accept s b = (s, okReply b) := rfl

/-- A panel is unconfigured where its width or its height is 0 (R141). -/
theorem State.not_configured_iff {s : State} : s.configured = false ↔ s.scan.width = 0 ∨ s.scan.height = 0 := by
  rw [← Bool.not_eq_true, State.configured_iff]
  tauto

/-! ### START, HOLD, RESUME_SCAN, STOP (R144, R145, R147 to R149) -/

theorem startRequest_of_not_stopped {s : State} (h : s.scan.state ≠ .stopped) :
    startRequest s = (s, plainReply .scanState) := if_pos h

theorem startRequest_of_unconfigured {s : State} (h : s.scan.state = .stopped) (hc : s.scan.width = 0 ∨ s.scan.height = 0) :
    startRequest s = (s, plainReply .notConfigured) := by
  simp [startRequest, h, State.not_configured_iff.mpr hc]

theorem startRequest_of_configured {s : State} (h : s.scan.state = .stopped) (hw : s.scan.width ≠ 0)
    (hh : s.scan.height ≠ 0) :
    startRequest s =
      ({ s with scan := { s.scan with state := .priming, expect := .vblank, firstCommit := true } },
        okReply (.scan { state := .priming, frame := s.scan.frame, expect := .vblank, resolver := s.resolver.phase })) := by
  have hconf : s.configured = true := State.configured_iff.mpr ⟨hw, hh⟩
  simp [startRequest, h, hconf, scanReply, State.scanReport]

theorem holdRequest_of_running {s : State} (h : s.scan.state = .running) :
    holdRequest s =
      ({ s with scan := { s.scan with state := .hold } },
        okReply (.scan { state := .hold, frame := s.scan.frame, expect := s.scan.expect, resolver := s.resolver.phase })) := by
  simp [holdRequest, h, scanReply, State.scanReport]

theorem holdRequest_of_not_running {s : State} (h : s.scan.state ≠ .running) :
    holdRequest s = (s, plainReply .scanState) := if_pos h

theorem resumeScanRequest_of_hold {s : State} (h : s.scan.state = .hold) :
    resumeScanRequest s =
      ({ s with scan := { s.scan with state := .running } },
        okReply (.scan { state := .running, frame := s.scan.frame, expect := s.scan.expect, resolver := s.resolver.phase })) := by
  simp [resumeScanRequest, h, scanReply, State.scanReport]

theorem resumeScanRequest_of_not_hold {s : State} (h : s.scan.state ≠ .hold) :
    resumeScanRequest s = (s, plainReply .scanState) := if_pos h

/-- Settles O34: each request in the state its rule takes it in. -/
theorem startHoldResumeAndStop : Obligations.StartHoldResumeAndStop := by
  intro q s report
  refine ⟨fun hchoice h => ⟨fun hc => ?_, fun hw hh => ?_⟩, fun hchoice h => ?_, fun hchoice h => ?_, fun hchoice => ?_⟩
  · exact exec_taken rfl hchoice (.inr rfl) (.inl nofun) (startRequest_of_unconfigured h hc)
  · exact exec_taken rfl hchoice (.inr rfl) (.inl nofun) (startRequest_of_configured h hw hh)
  · exact exec_taken rfl hchoice (.inr rfl) (.inl nofun) (holdRequest_of_running h)
  · exact exec_taken rfl hchoice (.inr rfl) (.inl nofun) (resumeScanRequest_of_hold h)
  · exact exec_taken rfl hchoice (.inr rfl) (.inl nofun) rfl

/-! ### CONFIGURE (R156, R157) -/

section
variable {w h : Word16} {g : Byte} {s : State} (bg : Colour)

theorem configureRequest_of_not_stopped (hst : s.scan.state ≠ .stopped) :
    configureRequest w h bg g s = (s, plainReply .scanState) := if_pos hst

variable (hst : s.scan.state = .stopped)
include hst

theorem configureRequest_of_invalid
    (hv : ¬ (16 ≤ w.toNat ∧ w.toNat ≤ 4096 ∧ 16 ≤ h.toNat ∧ h.toNat ≤ 4096 ∧ g.toNat ≤ 15)) :
    configureRequest w h bg g s = (s, plainReply .badRequest) := by
  have hcheck : (panelSide w.toNat && panelSide h.toNat && decide (g.toNat ≤ Config.graceMax)) = false := by
    rw [← Bool.not_eq_true, Bool.and_eq_true, Bool.and_eq_true, panelSide_iff, panelSide_iff,
      decide_eq_true_iff]
    exact fun ⟨⟨⟨h1, h2⟩, h3, h4⟩, h5⟩ => hv ⟨h1, h2, h3, h4, h5⟩
  simp [configureRequest, hst, hcheck]

variable (hv : 16 ≤ w.toNat ∧ w.toNat ≤ 4096 ∧ 16 ≤ h.toNat ∧ h.toNat ≤ 4096 ∧ g.toNat ≤ 15)
include hv

theorem configureRequest_of_valid :
    configureRequest w h bg g s =
      match s.geometryConflict w.toNat h.toNat with
      | some k => (s, { code := .geometryConflict, body := .conflict k, records := [] })
      | none =>
        ({ s with scan := { s.scan with width := w.toNat, height := h.toNat, background := bg, grace := g.toNat } },
          okReply (.configuration w.toNat h.toNat bg g.toNat)) := by
  obtain ⟨h1, h2, h3, h4, h5⟩ := hv
  have hcheck : (panelSide w.toNat && panelSide h.toNat && decide (g.toNat ≤ Config.graceMax)) = true := by
    rw [Bool.and_eq_true, Bool.and_eq_true, panelSide_iff, panelSide_iff, decide_eq_true_iff]
    exact ⟨⟨⟨h1, h2⟩, h3, h4⟩, h5⟩
  rw [configureRequest, if_neg (not_not_intro hst), hcheck, Bool.not_true, if_neg Bool.false_ne_true]
  rfl

end

theorem State.slotBeyond_iff {s : State} {w h : Nat} {k : Slot} :
    s.slotBeyond w h k = true ↔
      ∃ o ∈ s.table[k], (∃ z ∈ o.rect, w < z.x1 ∨ h < z.y1)
        ∨ ∃ e ∈ s.entryFor k, ∃ z ∈ e.fields.rect, w < z.x1 ∨ h < z.y1 := by
  simp only [State.slotBeyond, Rect.beyond, Option.any_eq_true, Bool.or_eq_true, decide_eq_true_iff, Option.mem_def,
    Option.bind_eq_some_iff]
  constructor
  · rintro ⟨o, ho, hz | ⟨z, ⟨e, he, hze⟩, hz⟩⟩
    · exact ⟨o, ho, .inl hz⟩
    · exact ⟨o, ho, .inr ⟨e, he, z, hze, hz⟩⟩
  · rintro ⟨o, ho, hz | ⟨e, he, z, hze, hz⟩⟩
    · exact ⟨o, ho, .inl hz⟩
    · exact ⟨o, ho, .inr ⟨z, ⟨e, he, hze⟩, hz⟩⟩

/-- A search over the slots finds the lowest of which the test holds. -/
theorem find_slots_eq_some {f : Slot → Bool} {k : Slot} : slots.find? f = some k ↔ f k = true ∧ ∀ j < k, f j = false := by
  rw [slots, List.find?_eq_some_iff_getElem]
  constructor
  · rintro ⟨hk, i, hi, hik, hbefore⟩
    simp only [List.getElem_finRange] at hik
    refine ⟨hk, fun j hj => ?_⟩
    have := hbefore j.val (by rw [← hik] at hj; simpa [Fin.lt_def] using hj)
    simpa using this
  · rintro ⟨hk, hbefore⟩
    refine ⟨hk, k.val, by simp, by simp, fun j hj => ?_⟩
    simpa using hbefore ⟨j, by omega⟩ (Fin.lt_def.mpr hj)

theorem find_slots_eq_none {f : Slot → Bool} : slots.find? f = none ↔ ∀ k, f k = false := by
  simp [slots]

/-- Settles O36: the value check, then the lowest slot that fails, then the write. -/
theorem configureWritesThePanel : Obligations.ConfigureWritesThePanel := by
  intro q g w h bg s r c hchoice hst valid beyond fails
  have hfails (k : Slot) : s.slotBeyond w.toNat h.toNat k = true ↔ fails k := State.slotBeyond_iff
  refine ⟨fun hv => ?_, fun hv k hk hlow => ?_, fun hv hnone => ?_⟩
  · exact exec_taken rfl hchoice (.inr rfl) (.inl nofun) (configureRequest_of_invalid bg hst hv)
  · have hconflict : s.geometryConflict w.toNat h.toNat = some k :=
      find_slots_eq_some.mpr ⟨(hfails k).mpr hk, fun j hj => by
        rw [← Bool.not_eq_true, hfails]; exact hlow j hj⟩
    refine exec_taken rfl hchoice (.inr rfl) (.inl nofun) ((configureRequest_of_valid bg hst hv).trans ?_)
    rw [hconflict]
  · have hconflict : s.geometryConflict w.toNat h.toNat = none :=
      find_slots_eq_none.mpr fun k => by rw [← Bool.not_eq_true, hfails]; exact hnone k
    refine exec_taken rfl hchoice (.inr rfl) (.inl nofun) ((configureRequest_of_valid bg hst hv).trans ?_)
    rw [hconflict]

/-! ### CLEAR_TABLE (R23, R159, R160) -/

theorem clearTableRequest_of_taken {s : State} (h : s.scan.state = .stopped ∨ s.scan.state = .hold) :
    clearTableRequest s = clearReply s := by
  obtain h | h := h <;> simp [clearTableRequest, h]

theorem clearTableRequest_of_refused {s : State} (h : s.scan.state ≠ .stopped) (h' : s.scan.state ≠ .hold) :
    clearTableRequest s = (s, plainReply .scanState) := by
  unfold clearTableRequest
  split
  · exact absurd ‹_› h
  · exact absurd ‹_› h'
  · rfl
  · rfl

/-- The cleared table with the picture of HOLD, as one record. -/
theorem State.clearTable_eq (s : State) :
    s.clearTable =
      { s.emptied with
        resolver := if s.scan.state = .hold then .idle else s.resolver
        front :=
          if s.scan.state = .hold then
            some (backgroundPlan s.scan.frame s.scan.width s.scan.height s.scan.background)
          else s.front } := by
  unfold State.clearTable
  cases h : s.scan.state <;> simp [State.emptied]

@[simp] theorem State.emptied_sessions (s : State) (x : Session) :
    s.emptied.sessions.get x = { s.sessions.get x with cursor := none } := PerSession.get_make _ x

@[simp] theorem State.emptied_tagMaps (s : State) (x : Session) : s.emptied.tagMaps.get x = [] := PerSession.get_make _ x

@[simp] theorem State.emptied_table (s : State) (k : Slot) : s.emptied.table[k] = none := Vector.getElem_replicate _

@[simp] theorem State.emptied_shown (s : State) (k : Slot) : s.emptied.shown[k] = false := Vector.getElem_replicate _

theorem State.countRegions_all (s : State) :
    s.countRegions (fun _ => true) = (slots.filter (fun k => s.table[k].isSome)).length := by
  have h (k : Slot) : s.table[k].any (fun _ => true) = s.table[k].isSome := by cases s.table[k] <;> rfl
  simp only [State.countRegions, State.slotsWhere, h]

/-- Settles O37: the table as `clearTable` leaves it, and the counts taken before. -/
theorem clearTableEmptiesTheTable : Obligations.ClearTableEmptiesTheTable := by
  intro q s hchoice hst held
  refine ⟨s.clearTable, ?_, ?_, fun x => ?_⟩
  · refine exec_taken rfl hchoice (.inr rfl) (.inl nofun) ((clearTableRequest_of_taken hst).trans ?_)
    rw [clearReply, accept_eq, State.countRegions_all, State.clearTable_eq]
    by_cases h : s.scan.state = .hold <;> simp [held, h, State.scanReport, State.emptied, Resolver.phase]
  · rw [State.clearTable_eq]
    by_cases h : s.scan.state = .hold <;> simp [held, h, State.emptied, backgroundPlan, backgroundContent]
  · rw [State.clearTable_eq]
    exact ⟨State.emptied_tagMaps s x, State.emptied_sessions s x⟩

/-! ### SOFT_RESET (R161) -/

/-- SOFT_RESET taken: the reset of what is left once the request has gone from SP's buffer, and the response in SP's queue. -/
theorem exec_softReset {q : Byte} {s : State} (hchoice : s.choice = some (.sup, ⟨q, .softReset⟩)) :
    exec (.softReset .sup q) s =
      .next ((s.dequeue .sup).softReset.answer .sup { kind := .softReset, seq := q, reply := plainReply .ok }) := by
  show Host.Outcome.next (s.serve .sup ⟨q, .softReset⟩ softResetRequest) = _
  rw [State.serve, if_pos hchoice]
  rfl

@[simp] theorem State.softReset_table (s : State) : s.softReset.table = Vector.replicate 64 none := rfl
@[simp] theorem State.softReset_shown (s : State) : s.softReset.shown = Vector.replicate 64 false := rfl
@[simp] theorem State.softReset_pool (s : State) : s.softReset.pool = [] := rfl
@[simp] theorem State.softReset_tagMaps (s : State) (x : Session) : s.softReset.tagMaps.get x = [] :=
  PerSession.get_make _ x
@[simp] theorem State.softReset_client (s : State) (n : Client) :
    s.softReset.sessions.get (.client n) = softResetSession (s.sessions.get (.client n)) := by
  simp [State.softReset]
@[simp] theorem State.softReset_sup (s : State) : s.softReset.sessions.sup = { s.sessions.sup with cursor := none } := rfl
@[simp] theorem State.softReset_ports (s : State) (p : Port) :
    s.softReset.ports.get p = softResetPort p (s.ports.get p) := PerSession.get_make _ _

theorem softResetPort_transaction (x : Session) (p : PortState) :
    (softResetPort x p).transaction = p.transaction.detach := by
  cases x <;> rfl

theorem Transaction.detach_of_not_sending {t : Transaction} (h : ∀ z b, t ≠ .sending z b) : t.detach = t := by
  cases t with
  | sending z b => exact absurd rfl (h z b)
  | idle => rfl
  | command => rfl
  | header l => rfl
  | body k q l => rfl
  | status w => rfl
  | ignoring => rfl

@[simp] theorem AlertSet.cleared_clients (a : AlertSet) (n : Client) : a.cleared.clients[n] = false :=
  Vector.getElem_replicate _

@[simp] theorem AlertSet.cleared_ports (a : AlertSet) (p : Port) : a.cleared.ports.get p = false := PerSession.get_make _ _

theorem State.dequeue_transaction (s : State) (p x : Port) :
    ((s.dequeue p).ports.get x).transaction = (s.ports.get x).transaction := by
  by_cases h : x = p
  · subst h; cases x <;> simp [State.dequeue, State.mapPort]
  · cases p <;> simp [State.dequeue, State.mapPort, PerSession.get_set_of_ne _ _ h]

theorem State.answer_transaction (s : State) (p x : Port) (z : Response) :
    ((s.answer p z).ports.get x).transaction = (s.ports.get x).transaction := by
  by_cases h : x = p
  · subst h; simp [State.answer, State.mapPort]
  · simp [State.answer, State.mapPort, PerSession.get_set_of_ne _ _ h]

/-- A transaction after SOFT_RESET: as it was, but that a read in progress loses its place in the queue (R194). -/
theorem State.softReset_transaction (s : State) (p : Port) (z : Response) :
    (((s.dequeue .sup).softReset.answer .sup z).ports.get p).transaction = (s.ports.get p).transaction.detach := by
  rw [State.answer_transaction, State.softReset_ports, softResetPort_transaction, State.dequeue_transaction]

/-- Settles O38: block by block, with SP's response queued after its queue was emptied. -/
theorem softResetBlockByBlock : Obligations.SoftResetBlockByBlock := by
  intro q s hchoice
  let z : Response := { kind := .softReset, seq := q, reply := plainReply .ok }
  have hport (n : Client) : ((s.dequeue .sup).softReset.answer .sup z).ports.get (.client n)
      = softResetPort (.client n) (s.ports.get (.client n)) := by
    rw [State.answer, State.mapPort, PerSession.get_set_of_ne _ _ (by simp), State.softReset_ports]
    rfl
  refine ⟨_, exec_softReset hchoice, rfl, rfl, rfl, State.softReset_tagMaps (s.dequeue .sup),
    State.softReset_client (s.dequeue .sup), rfl, rfl, rfl, rfl,
    rfl, rfl, AlertSet.cleared_clients _, AlertSet.cleared_ports _, rfl, ?_, ?_, ?_, ?_, ?_, rfl, rfl, rfl, rfl⟩
  · intro n
    exact (hport n) ▸ ⟨rfl, rfl⟩
  · rfl
  · rfl
  · intro p h
    exact (State.softReset_transaction s p z).trans (Transaction.detach_of_not_sending h)
  · intro p y b h
    exact (State.softReset_transaction s p z).trans (h ▸ rfl)

/-! ### Scan requests refused by scan state (R144) -/

/-- What one row of R144's table says of a request from SP: refused with SCAN_STATE outside the states listed, and inside them
answered with another outcome. -/
theorem refusedByState {c : Instr} {call : Call} {states : List ScanState} {q : Byte} {s : State}
    (hc : c.request = some (.sup, ⟨q, call⟩)) (hchoice : s.choice = some (.sup, ⟨q, call⟩)) (hcall : call ≠ .softReset)
    (hout : s.scan.state ∉ states → requestRule .sup call s = (s, plainReply .scanState))
    (hin : s.scan.state ∈ states → (requestRule .sup call s).2.code ≠ .scanState) :
    (s.scan.state ∉ states → exec c s = .next (s.answered .sup ⟨q, call⟩ (plainReply .scanState)))
      ∧ (s.scan.state ∈ states → ∀ t, exec c s = .next t →
          ∃ z, (t.ports.get .sup).responses.getLast? = some z ∧ z.reply.code ≠ .scanState) := by
  refine ⟨fun h => exec_taken hc hchoice (.inr rfl) (.inl hcall) (hout h), fun h t ht => ?_⟩
  rw [exec_taken hc hchoice (.inr rfl) (.inl hcall) rfl] at ht
  obtain rfl := Host.Outcome.next.inj ht
  exact ⟨_, State.answered_getLast _ _ _ _, hin h⟩

theorem startRequest_code {s : State} (h : s.scan.state = .stopped) : (startRequest s).2.code ≠ .scanState := by
  unfold startRequest
  rw [if_neg (not_not_intro h)]
  split <;> exact nofun

theorem configureRequest_code {w h : Word16} {bg : Colour} {g : Byte} {s : State} (hst : s.scan.state = .stopped) :
    (configureRequest w h bg g s).2.code ≠ .scanState := by
  unfold configureRequest
  rw [if_neg (not_not_intro hst)]
  split
  · exact nofun
  · split <;> exact nofun

theorem mem_all_states (st : ScanState) : st ∈ [ScanState.stopped, .priming, .running, .hold] := by cases st <;> simp

/-- Settles O35: row by row of the table of R144. -/
theorem scanRequestsRefusedByState : Obligations.ScanRequestsRefusedByState := by
  intro q g w h bg s all cr hcr hchoice
  simp only [List.mem_cons, List.not_mem_nil, or_false] at hcr
  obtain rfl | rfl | rfl | rfl | rfl | rfl | rfl | rfl := hcr
  · exact refusedByState rfl hchoice nofun (fun h => startRequest_of_not_stopped (by simpa using h))
      (fun h => startRequest_code (by simpa using h))
  · refine refusedByState rfl hchoice nofun (fun h => holdRequest_of_not_running (by simpa using h)) (fun h => ?_)
    rw [show requestRule .sup .hold s = _ from holdRequest_of_running (by simpa using h)]
    exact nofun
  · refine refusedByState rfl hchoice nofun (fun h => resumeScanRequest_of_not_hold (by simpa using h)) (fun h => ?_)
    rw [show requestRule .sup .resumeScan s = _ from resumeScanRequest_of_hold (by simpa using h)]
    exact nofun
  · exact refusedByState rfl hchoice nofun (fun h => absurd (mem_all_states _) h) (fun _ => nofun)
  · refine refusedByState rfl hchoice nofun (fun h => forceCommitRequest_of_not_stopped (by simpa using h)) (fun h => ?_)
    rw [show requestRule .sup .forceCommit s = _ from forceCommitRequest_of_stopped (by simpa using h)]
    exact nofun
  · exact refusedByState rfl hchoice nofun (fun h => configureRequest_of_not_stopped bg (by simpa using h))
      (fun h => configureRequest_code (by simpa using h))
  · refine refusedByState rfl hchoice nofun (fun h => ?_) (fun h => ?_)
    · simp only [List.mem_cons, List.not_mem_nil, or_false, not_or] at h
      exact clearTableRequest_of_refused h.1 h.2
    · rw [show requestRule .sup .clearTable s = _ from clearTableRequest_of_taken (by simpa using h)]
      exact nofun
  · refine ⟨fun h => absurd (mem_all_states _) h, fun _ t ht => ?_⟩
    rw [exec_softReset hchoice] at ht
    obtain rfl := Host.Outcome.next.inj ht
    exact ⟨_, rfl, nofun⟩

/-! ### RESET_N (R202) -/

theorem exec_resetLow (s : State) : exec (.resetN .low) s = .next s.heldInReset := rfl

theorem State.heldInReset_ports (s : State) (p : Port) : s.heldInReset.ports.get p = resetPort (s.ports.get p) :=
  PerSession.get_make _ _

theorem State.heldInReset_client (s : State) (n : Client) :
    s.heldInReset.sessions.get (.client n) = SessionRecord.reset := Vector.getElem_replicate _

/-- Settles O40: every block of State.reset, with the pin low and the ports held. -/
theorem resetPinHoldsEveryBlock : Obligations.ResetPinHoldsEveryBlock := by
  intro s
  refine ⟨⟨s.heldInReset, rfl, rfl, rfl, rfl, rfl, fun x => PerSession.get_make _ x, State.heldInReset_client s, rfl, rfl, rfl,
    rfl, rfl, rfl, rfl, rfl, AlertSet.cleared_clients _, AlertSet.cleared_ports _, rfl, rfl, rfl, fun p => ?_, rfl,
    fun n => rfl⟩, rfl⟩
  rw [State.heldInReset_ports]
  exact ⟨rfl, rfl, rfl⟩

/-- Settles O39: the fields of Scan Control, request by request. -/
theorem scanControlAfterResetsAndRequests : Obligations.ScanControlAfterResetsAndRequests := by
  intro q s t
  refine ⟨fun h => ?_, fun hchoice h => ?_, fun hchoice hst hw hh h => ?_, fun hchoice h => ?_, fun hchoice h => ?_⟩
  · rw [exec_resetLow] at h
    obtain rfl := Host.Outcome.next.inj h
    rfl
  · rw [exec_softReset hchoice] at h
    obtain rfl := Host.Outcome.next.inj h
    rfl
  · rw [exec_taken rfl hchoice (.inr rfl) (.inl nofun) (startRequest_of_configured hst hw hh)] at h
    obtain rfl := Host.Outcome.next.inj h
    rfl
  · rw [exec_taken rfl hchoice (.inr rfl) (.inl nofun) rfl] at h
    obtain rfl := Host.Outcome.next.inj h
    rfl
  · rw [exec_taken rfl hchoice (.inr rfl) (.inl nofun) rfl] at h
    obtain rfl := Host.Outcome.next.inj h
    show (clearTableRequest s).1.scan = s.scan
    by_cases h : s.scan.state = .stopped ∨ s.scan.state = .hold
    · rw [clearTableRequest_of_taken h, clearReply, accept_eq, State.clearTable_eq]
      rfl
    · rw [not_or] at h
      rw [clearTableRequest_of_refused h.1 h.2]

/-- Settles O10: SUP's record is the reset one once its cursor has gone (R24). -/
theorem sessionRecordsAfterResets : Obligations.SessionRecordsAfterResets := by
  rintro q s t ⟨-, -, hsup⟩
  refine ⟨fun h => ?_, fun hchoice h => ?_, fun hchoice hst h => ?_⟩
  · rw [exec_resetLow] at h
    obtain rfl := Host.Outcome.next.inj h
    exact ⟨State.heldInReset_client s, rfl⟩
  · rw [exec_softReset hchoice] at h
    obtain rfl := Host.Outcome.next.inj h
    exact ⟨State.softReset_client _, hsup⟩
  · rw [exec_taken rfl hchoice (.inr rfl) (.inl nofun) (clearTableRequest_of_taken hst)] at h
    obtain rfl := Host.Outcome.next.inj h
    rw [State.clearTable_eq]
    exact ⟨fun n => State.emptied_sessions s _, hsup⟩

end Sys2Proof.Machine
end

section
/-! PROOFS. The session records stay legal (R24 to R38): each effect of a request keeps them, and so does each commit. -/

namespace Sys2Proof.Machine

set_option Elab.async false

theorem PerSession.get_set {α : Type} (p : PerSession α) (x y : Session) (v : α) :
    (p.set x v).get y = if y = x then v else p.get y := by
  split
  · next h => rw [h, PerSession.get_set_self]
  · next h => exact PerSession.get_set_of_ne p v h

/-! ### What legal records are kept by -/

theorem State.SessionsLegal.of_sessions_eq {s t : State} (hs : s.SessionsLegal) (h : t.sessions = s.sessions) :
    t.SessionsLegal := by
  unfold State.SessionsLegal
  rw [h]
  exact hs

/-- Clients' records that stay legal with their quotas, and SUP's that changes its cursor at most. -/
theorem State.SessionsLegal.of_records {s t : State} (hs : s.SessionsLegal)
    (hlegal : ∀ n : Client, (t.sessions.get (.client n)).Legal)
    (hquota : ∀ n : Client, (t.sessions.get (.client n)).quota = (s.sessions.get (.client n)).quota)
    (hsup : ({ t.sessions.sup with cursor := none } : SessionRecord) = { s.sessions.sup with cursor := none }) :
    t.SessionsLegal := by
  obtain ⟨-, hsum, hreset⟩ := hs
  refine ⟨hlegal, ?_, hsup.trans hreset⟩
  rw [hquota, hquota, hquota, hquota]
  exact hsum

/-- One client's record changed. -/
theorem State.SessionsLegal.mapClient {s t : State} (hs : s.SessionsLegal) {n : Client} {r : SessionRecord}
    (ht : t.sessions = s.sessions.set (.client n) r) (hr : r.Legal)
    (hquota : r.quota = (s.sessions.get (.client n)).quota) : t.SessionsLegal := by
  have hget (m : Client) :
      t.sessions.get (.client m) = if m = n then r else s.sessions.get (.client m) := by
    rw [ht, PerSession.get_set]
    simp only [Session.client.injEq]
  refine hs.of_records (fun m => ?_) (fun m => ?_) (by rw [ht]; rfl)
  · rw [hget]
    split
    · exact hr
    · exact hs.1 m
  · rw [hget]
    split
    · next h => rw [hquota, h]
    · rfl

/-! ### Effects of requests -/

section
variable {s : State} (hs : s.SessionsLegal)
include hs

theorem attach_sessionsLegal {n : Client} (hst : (s.sessions.get (.client n)).state = .detached) :
    (s.mapSession (.client n) (fun r => { r with state := .attached, evicted := false })).SessionsLegal := by
  obtain ⟨hq, hc, hl, hl', hfits, -, -⟩ := hs.1 n
  refine hs.mapClient rfl ⟨hq, hc, hl, hl', ?_, nofun, nofun⟩ rfl
  cases hp : (s.sessions.get (.client n)).pending <;> simp [SessionRecord.pendingFits, hst, hp] at hfits ⊢

theorem depart_sessionsLegal (n : Client) : (s.depart (.client n)).SessionsLegal := by
  obtain ⟨hq, hc, hl, hl', -, -, -⟩ := hs.1 n
  exact hs.mapClient rfl ⟨hq, hc, hl, hl', rfl, fun _ => .inr rfl, nofun⟩ rfl

theorem evictedMark_sessionsLegal {n : Client} (hst : (s.sessions.get (.client n)).state = .draining) :
    (s.mapSession (.client n) (fun r => { r with evicted := true })).SessionsLegal := by
  obtain ⟨hq, hc, hl, hl', hfits, -, hcursor⟩ := hs.1 n
  exact hs.mapClient rfl ⟨hq, hc, hl, hl', hfits, fun _ => .inr hst, hcursor⟩ rfl

theorem limits_sessionsLegal {n : Client} {quota ceiling leaseMax : Byte}
    (hvalid : limitsValid quota ceiling leaseMax = true) (hsum : s.quotaSumWith n quota.toNat ≤ 56) :
    (s.mapSession (.client n) (fun r =>
      { r with quota := quota.toNat, ceiling := ceiling.toNat, leaseMax := leaseMax.toNat })).SessionsLegal := by
  simp only [limitsValid, Bool.and_eq_true, decide_eq_true_iff] at hvalid
  obtain ⟨⟨hquota, hceiling⟩, hlease⟩ := hvalid
  obtain ⟨hlegal, -, hsup⟩ := hs
  have hget (m : Client) : (s.mapSession (.client n) (fun r =>
      { r with quota := quota.toNat, ceiling := ceiling.toNat, leaseMax := leaseMax.toNat })).sessions.get (.client m) =
      if m = n then
        { s.sessions.get (.client n) with quota := quota.toNat, ceiling := ceiling.toNat, leaseMax := leaseMax.toNat }
      else s.sessions.get (.client m) := by
    simp only [State.mapSession, PerSession.get_set, Session.client.injEq]
  refine ⟨fun m => ?_, ?_, hsup⟩
  · rw [hget]
    split
    · obtain ⟨-, -, -, -, hfits, hevicted, hcursor⟩ := hlegal n
      have hpos : 1 ≤ leaseMax.toNat := by
        have : leaseMax.toNat ≠ 0 := fun h => hlease (BitVec.eq_of_toNat_eq h)
        omega
      exact ⟨hquota, hceiling, hpos, Nat.le_of_lt_succ leaseMax.isLt, hfits, hevicted, hcursor⟩
    · exact hlegal m
  · have hquotas (m : Client) : (if m = n then
        ({ s.sessions.get (.client n) with
            quota := quota.toNat, ceiling := ceiling.toNat, leaseMax := leaseMax.toNat } : SessionRecord)
        else s.sessions.get (.client m)).quota = if m = n then quota.toNat else (s.sessions.get (.client m)).quota := by
      split <;> rfl
    simp only [hget, hquotas]
    simpa [State.quotaSumWith, clients, Nat.add_assoc] using hsum

theorem pending_sessionsLegal {n : Client} {f : SessionRecord → PendingChange}
    (hf : f = pendingAfterSuspend ∨ f = pendingAfterResume)
    (hst : (s.sessions.get (.client n)).state = .attached ∨ (s.sessions.get (.client n)).state = .suspended) :
    (s.mapSession (.client n) (fun r => { r with pending := f r })).SessionsLegal := by
  obtain ⟨hq, hc, hl, hl', hfits, hevicted, hcursor⟩ := hs.1 n
  refine hs.mapClient rfl ⟨hq, hc, hl, hl', ?_, hevicted, hcursor⟩ rfl
  obtain rfl | rfl := hf
  · obtain hst | hst := hst <;> cases hp : (s.sessions.get (.client n)).pending <;>
      simp [SessionRecord.pendingFits, pendingAfterSuspend, hst, hp] at hfits ⊢
  · obtain hst | hst := hst <;> cases hp : (s.sessions.get (.client n)).pending <;>
      simp [SessionRecord.pendingFits, pendingAfterResume, hst, hp] at hfits ⊢

theorem cursor_sessionsLegal {p : Session} {c : Option Cursor} (hst : p = .sup ∨ (s.sessions.get p).state ≠ .detached) :
    (s.mapSession p (fun r => { r with cursor := c })).SessionsLegal := by
  cases p with
  | sup => exact hs.of_records hs.1 (fun _ => rfl) rfl
  | client n =>
    obtain ⟨hq, hc, hl, hl', hfits, hevicted, -⟩ := hs.1 n
    exact hs.mapClient rfl ⟨hq, hc, hl, hl', hfits, hevicted, fun h => absurd h (hst.resolve_left nofun)⟩ rfl

/-- A record after its pending change and the mark of its cursor: legal, with the same quota (R78, R79, R93). -/
theorem settle_legal (n : Client) :
    (s.sessions.get (.client n)).settle.marked.Legal
      ∧ (s.sessions.get (.client n)).settle.marked.quota = (s.sessions.get (.client n)).quota := by
  obtain ⟨hq, hc, hl, hl', hfits, hevicted, hcursor⟩ := hs.1 n
  generalize s.sessions.get (.client n) = r at *
  rw [SessionRecord.settle_marked]
  by_cases hd : r.pending = .drain
  · rw [if_pos hd]
    exact ⟨⟨hq, hc, hl, hl', rfl, fun _ => .inl rfl, fun _ => rfl⟩, rfl⟩
  · rw [if_neg hd]
    refine ⟨⟨hq, hc, hl, hl', ?_, ?_, ?_⟩, rfl⟩ <;>
      cases hst : r.state <;> cases hp : r.pending <;>
      simp_all [SessionRecord.marked, SessionRecord.pendingFits, SessionRecord.stateAfter]

theorem commitParts_sessionsLegal : s.commitParts.SessionsLegal := by
  have hget (n : Client) : s.commitParts.sessions.get (.client n) = (s.sessions.get (.client n)).settle.marked :=
    s.commitParts_sessions (.client n)
  have hsup : s.commitParts.sessions.sup = s.sessions.sup.marked := s.commitParts_sessions .sup
  exact hs.of_records (fun n => by rw [hget]; exact (settle_legal hs n).1) (fun n => by rw [hget]; exact (settle_legal hs n).2)
    (by rw [hsup]; rfl)

theorem forceParts_sessionsLegal : s.forceParts.SessionsLegal := by
  have hget (n : Client) : s.forceParts.sessions.get (.client n) = (s.sessions.get (.client n)).settle.marked :=
    s.forceParts_sessions (.client n)
  have hsup : s.forceParts.sessions.sup = s.sessions.sup.marked := s.forceParts_sessions .sup
  exact hs.of_records (fun n => by rw [hget]; exact (settle_legal hs n).1) (fun n => by rw [hget]; exact (settle_legal hs n).2)
    (by rw [hsup]; rfl)

theorem vblankCommit_sessionsLegal (f : Word16) : (s.vblankCommit f).SessionsLegal := by
  obtain ⟨-, -, -, hsessions, -, -⟩ := s.vblankCommit_parts f
  exact (commitParts_sessionsLegal hs).of_sessions_eq hsessions

theorem emptied_sessionsLegal : s.emptied.SessionsLegal := by
  refine hs.of_records (fun n => ?_) (fun n => by rw [State.emptied_sessions]) rfl
  obtain ⟨hq, hc, hl, hl', hfits, hevicted, -⟩ := hs.1 n
  rw [State.emptied_sessions]
  exact ⟨hq, hc, hl, hl', hfits, hevicted, fun _ => rfl⟩

theorem softReset_sessionsLegal : s.softReset.SessionsLegal := by
  refine hs.of_records (fun n => ?_) (fun n => by rw [State.softReset_client]; rfl) rfl
  obtain ⟨hq, hc, hl, hl', -, -, -⟩ := hs.1 n
  rw [State.softReset_client]
  exact ⟨hq, hc, hl, hl', rfl, nofun, fun _ => rfl⟩

end

/-! ### The scan requests and the table -/

/-- What a scan request but FORCE_COMMIT does: Scan Control moves over the same panel, or takes a checked panel in STOPPED, or
the part is stopped, emptied or reset. -/
inductive ScanEffect (s : State) : State → Prop
  | control (c : ScanControl) (hpanel : c.width = s.scan.width ∧ c.height = s.scan.height ∧ c.grace = s.scan.grace) :
    ScanEffect s { s with scan := c }
  | configured {w h : Word16} {bg : Colour} {g : Byte} (hst : s.scan.state = .stopped)
      (hvalid : 16 ≤ w.toNat ∧ w.toNat ≤ 4096 ∧ 16 ≤ h.toNat ∧ h.toNat ≤ 4096 ∧ g.toNat ≤ 15)
      (hconflict : s.geometryConflict w.toNat h.toNat = none) :
    ScanEffect s
      { s with scan := { s.scan with width := w.toNat, height := h.toNat, background := bg, grace := g.toNat } }
  | stopped : ScanEffect s s.stopped
  | cleared : ScanEffect s s.clearTable
  | reset : ScanEffect s s.softReset

theorem ScanEffect.refl (s : State) : ScanEffect s s := .control s.scan ⟨rfl, rfl, rfl⟩

theorem configureRequest_scanEffect (w h : Word16) (bg : Colour) (g : Byte) (s : State) :
    ScanEffect s (configureRequest w h bg g s).1 := by
  by_cases hst : s.scan.state = .stopped
  · by_cases hv : 16 ≤ w.toNat ∧ w.toNat ≤ 4096 ∧ 16 ≤ h.toNat ∧ h.toNat ≤ 4096 ∧ g.toNat ≤ 15
    · rw [configureRequest_of_valid bg hst hv]
      cases hconflict : s.geometryConflict w.toNat h.toNat with
      | none => exact .configured hst hv hconflict
      | some k => exact .refl s
    · rw [configureRequest_of_invalid bg hst hv]
      exact .refl s
  · rw [configureRequest_of_not_stopped bg hst]
    exact .refl s

theorem scanRule_effect {c : Call} (hc : movesScan c = true) (p : Port) (s : State) :
    ScanEffect s (requestRule p c s).1 := by
  cases c with
  | configure w h bg g => exact configureRequest_scanEffect w h bg g s
  | start =>
    show ScanEffect s (startRequest s).1
    unfold startRequest
    split
    · exact .refl s
    · split
      · exact .refl s
      · exact .control _ ⟨rfl, rfl, rfl⟩
  | hold =>
    show ScanEffect s (holdRequest s).1
    unfold holdRequest
    split
    · exact .refl s
    · exact .control _ ⟨rfl, rfl, rfl⟩
  | resumeScan =>
    show ScanEffect s (resumeScanRequest s).1
    unfold resumeScanRequest
    split
    · exact .refl s
    · exact .control _ ⟨rfl, rfl, rfl⟩
  | stop => exact .stopped
  | clearTable =>
    show ScanEffect s (clearTableRequest s).1
    unfold clearTableRequest
    split
    · exact .cleared
    · exact .cleared
    · exact .refl s
    · exact .refl s
  | softReset => exact .reset
  | _ => cases hc

theorem ScanEffect.sessionsLegal {s t : State} (h : ScanEffect s t) (hs : s.SessionsLegal) : t.SessionsLegal := by
  cases h with
  | control c hpanel => exact hs.of_sessions_eq rfl
  | configured hst hvalid hconflict => exact hs.of_sessions_eq rfl
  | stopped => exact hs.of_sessions_eq rfl
  | cleared => exact (emptied_sessionsLegal hs).of_sessions_eq (by rw [State.clearTable_eq])
  | reset => exact softReset_sessionsLegal hs

/-! ### The invariant -/

theorem State.stageAmend_sessions (s : State) (k : Slot) (f : StagedFields) : (s.stageAmend k f).sessions = s.sessions := by
  unfold State.stageAmend
  split <;> rfl

theorem State.stageRemoval_sessions (s : State) (k : Slot) (r : Region) (kind : EntryKind) :
    (s.stageRemoval k r kind).sessions = s.sessions := by
  unfold State.stageRemoval
  split <;> rfl

theorem RuleEffect.sessionsLegal {p : Port} {s t : State} (h : RuleEffect p s t) (hs : s.SessionsLegal) :
    t.SessionsLegal := by
  induction h with
  | none s => exact hs
  | trans h h' ih ih' => exact ih' (ih hs)
  | alert s a hmask => exact hs.of_sessions_eq rfl
  | attach hp hst => exact attach_sessionsLegal hs hst
  | depart hp hst => exact depart_sessionsLegal hs _
  | evictedMark hp hst => exact evictedMark_sessionsLegal hs hst
  | limits hp hvalid hst hsum => exact limits_sessionsLegal hs hvalid hsum
  | pending hp hf hst => exact pending_sessionsLegal hs hf hst
  | opened => exact hs.of_sessions_eq rfl
  | pinned => exact hs.of_sessions_eq rfl
  | amended => exact hs.of_sessions_eq (State.stageAmend_sessions _ _ _)
  | renewed => exact hs.of_sessions_eq rfl
  | revived => exact hs.of_sessions_eq rfl
  | freed => exact hs.of_sessions_eq rfl
  | removal => exact hs.of_sessions_eq (State.stageRemoval_sessions _ _ _ _)
  | fetched s => exact hs.of_sessions_eq rfl
  | cursor c hst => exact cursor_sessionsLegal hs hst
  | scan hp hc => exact (scanRule_effect hc _ _).sessionsLegal hs
  | forced hp hst => exact forceParts_sessionsLegal hs

theorem State.reset_sessionsLegal : State.reset.SessionsLegal := by
  have hget (n : Client) : State.reset.sessions.get (.client n) = SessionRecord.reset := Vector.getElem_replicate _
  refine ⟨fun n => ?_, ?_, rfl⟩
  · rw [hget]
    exact ⟨by decide, by decide, by decide, by decide, rfl, nofun, fun _ => rfl⟩
  · simp only [hget]
    decide

theorem State.install_sessions (s : State) (p : Plan) : (s.install p).sessions = s.sessions := by
  simp only [State.install, State.raiseIf_sessions]

theorem sessionsLegal_keptByEvents : KeptByEvents State.SessionsLegal where
  view := by
    intro s t hs h
    simp only [State.behindPorts, Prod.mk.injEq] at h
    obtain ⟨-, -, -, hsessions, -⟩ := h
    exact hs.of_sessions_eq hsessions
  rule := by
    intro p c s hp _ hs
    exact (requestRule_effect hp s).sessionsLegal hs
  handOver := by
    intro s f _ hs
    exact hs.of_sessions_eq rfl
  commit := by
    intro s f rest hdue hs
    have hq : ({ s with commitsDue := rest } : State).SessionsLegal := hs.of_sessions_eq rfl
    rw [State.takeCommit_of_due hdue]
    exact vblankCommit_sessionsLegal hq f
  swap := by
    intro s p _ _ hs
    exact hs.of_sessions_eq (s.install_sessions p)
  complete := by
    intro s j _ hs
    exact hs.of_sessions_eq rfl
  reset := by
    intro s
    exact State.reset_sessionsLegal.of_sessions_eq rfl

/-- Settles O57: each effect of a request, each commit and each event keeps the records legal. -/
theorem stepKeepsSessionsLegal : Obligations.StepKeepsSessionsLegal :=
  fun _ _ hs h => sessionsLegal_keptByEvents.step hs h

end Sys2Proof.Machine
end

section
/-! PROOFS. The Staging Pool and the Tag Maps as lists: what each named change of them does to the entry of a slot and to the
entries of a map (R19, R42 to R47, R167). -/

namespace Sys2Proof.Machine

set_option Elab.async false

/-! ### The entry of a slot (R9, R42) -/

theorem State.entryFor_eq (s : State) (k : Slot) : s.entryFor k = entryIn s.pool k := rfl

theorem mem_of_entryIn {l : List PoolEntry} {k : Slot} {e : PoolEntry} (h : entryIn l k = some e) : e ∈ l ∧ e.slot = k :=
  ⟨List.mem_of_find?_eq_some h, by simpa using List.find?_some h⟩

theorem entryIn_of_mem {l : List PoolEntry} (hl : l.Pairwise (fun a b => a.slot ≠ b.slot)) {e : PoolEntry} (he : e ∈ l) :
    entryIn l e.slot = some e := by
  induction l with
  | nil => cases he
  | cons f l ih =>
    rw [List.pairwise_cons] at hl
    rw [entryIn_cons]
    obtain rfl | he := List.mem_cons.mp he
    · rw [if_pos rfl]
    · rw [if_neg (hl.1 e he), ih hl.2 he]

theorem entryIn_append (l : List PoolEntry) (e : PoolEntry) (k : Slot) :
    entryIn (l ++ [e]) k = (entryIn l k).or (if e.slot = k then some e else none) := by
  rw [entryIn, List.find?_append]
  by_cases h : e.slot = k <;> simp [entryIn, h]

theorem entryIn_map {f : PoolEntry → PoolEntry} (hf : ∀ e, (f e).slot = e.slot) (l : List PoolEntry) (k : Slot) :
    entryIn (l.map f) k = (entryIn l k).map f := by
  induction l with
  | nil => rfl
  | cons e l ih =>
    rw [List.map_cons, entryIn_cons, entryIn_cons, hf, ih]
    split <;> rfl

theorem entryIn_filter_of_keeps {p : PoolEntry → Bool} {l : List PoolEntry} {k : Slot}
    (h : ∀ e ∈ l, e.slot = k → p e = true) : entryIn (l.filter p) k = entryIn l k := by
  induction l with
  | nil => rfl
  | cons e l ih =>
    have ih := ih (fun f hf => h f (List.mem_cons_of_mem _ hf))
    rw [List.filter_cons, entryIn_cons]
    by_cases he : e.slot = k
    · rw [if_pos (h e List.mem_cons_self he), entryIn_cons, if_pos he, if_pos he]
    · rw [if_neg he]
      split
      · rw [entryIn_cons, if_neg he, ih]
      · exact ih

theorem entryIn_filter_of_drops {p : PoolEntry → Bool} {l : List PoolEntry} {k : Slot}
    (h : ∀ e ∈ l, e.slot = k → p e = false) : entryIn (l.filter p) k = none := by
  rw [entryIn_eq_none]
  intro e he hk
  obtain ⟨hmem, hp⟩ := List.mem_filter.mp he
  exact Bool.false_ne_true ((h e hmem hk).symm.trans hp)

theorem State.entryFor_stage (s : State) (e : PoolEntry) (k : Slot) :
    (s.stage e).entryFor k = (s.entryFor k).or (if e.slot = k then some e else none) := entryIn_append s.pool e k

/-- A change of a slot's entry that keeps the slot. -/
theorem State.entryFor_restage (s : State) {j : Slot} {f : PoolEntry → PoolEntry} (hf : ∀ e, (f e).slot = e.slot) (k : Slot) :
    (s.restage j f).entryFor k = if k = j then (s.entryFor k).map f else s.entryFor k := by
  have hmap : (s.restage j f).entryFor k = (s.entryFor k).map (fun e => if e.slot = j then f e else e) :=
    entryIn_map (fun e => by split <;> simp [hf]) s.pool k
  rw [hmap]
  cases he : s.entryFor k with
  | none => simp
  | some e =>
    obtain rfl : e.slot = k := (mem_of_entryIn he).2
    simp only [Option.map_some]
    split <;> rfl

theorem State.entryFor_unstage (s : State) (j k : Slot) :
    (s.unstage j).entryFor k = if k = j then none else s.entryFor k := by
  split
  · next h => exact entryIn_filter_of_drops (fun e _ he => by simp [he, h])
  · next h => exact entryIn_filter_of_keeps (fun e _ he => by simp [he, h])

/-! ### A Tag Map with an entry put in its place (R19) -/

theorem findTag_eq_none {m : List TagEntry} {t : Word16} : findTag m t = none ↔ ∀ e ∈ m, e.tag ≠ t := by
  simp [findTag]

theorem findTag_isSome {m : List TagEntry} {t : Word16} :
    (findTag m t).isSome = m.any (fun e => decide (e.tag = t)) := by
  induction m with
  | nil => rfl
  | cons e m ih =>
    by_cases h : e.tag = t
    · simp [findTag, h]
    · simpa [findTag, h] using ih

theorem insertTag_perm (e : TagEntry) (m : List TagEntry) : (insertTag e m).Perm (e :: m) := by
  induction m with
  | nil => exact .refl _
  | cons f m ih =>
    rw [insertTag]
    split
    · exact .refl _
    · exact (ih.cons f).trans (.swap e f m)

theorem mem_insertTag {e f : TagEntry} {m : List TagEntry} : f ∈ insertTag e m ↔ f = e ∨ f ∈ m := by
  rw [(insertTag_perm e m).mem_iff, List.mem_cons]

@[simp] theorem length_insertTag (e : TagEntry) (m : List TagEntry) : (insertTag e m).length = m.length + 1 :=
  (insertTag_perm e m).length_eq

theorem insertTag_ordered {e : TagEntry} {m : List TagEntry} (hm : orderedMap m) (htag : e.tag ≠ 0)
    (hnew : ∀ f ∈ m, f.tag ≠ e.tag) : orderedMap (insertTag e m) := by
  refine ⟨?_, fun f hf => (mem_insertTag.mp hf).elim (fun h => h ▸ htag) (hm.2 f)⟩
  have hlt := hm.1
  induction m with
  | nil => exact List.pairwise_singleton _ _
  | cons f m ih =>
    obtain ⟨hf, hm'⟩ := List.pairwise_cons.mp hlt
    rw [insertTag]
    split
    · next h =>
      exact List.pairwise_cons.mpr ⟨fun g hg => (List.mem_cons.mp hg).elim (fun hgf => hgf ▸ h) (fun hg => BitVec.lt_trans h
          (hf g hg)),
        hlt⟩
    · next h =>
      have hfe : f.tag < e.tag := by
        have hne := hnew f List.mem_cons_self
        have htoNat : f.tag.toNat ≠ e.tag.toNat := fun heq => hne (BitVec.eq_of_toNat_eq heq)
        rw [BitVec.lt_def] at h ⊢
        omega
      refine List.pairwise_cons.mpr ⟨fun g hg => (mem_insertTag.mp hg).elim (fun hge => hge ▸ hfe) (hf g), ?_⟩
      exact ih ⟨hm', fun g hg => hm.2 g (List.mem_cons_of_mem _ hg)⟩ (fun g hg => hnew g (List.mem_cons_of_mem _ hg)) hm'

/-- A map some of whose entries have gone, in tag order still. -/
theorem orderedMap.of_sublist {m m' : List TagEntry} (hm : orderedMap m)
    (h : (m'.map TagEntry.tag).Sublist (m.map TagEntry.tag)) : orderedMap m' := by
  have hlt : (m'.map TagEntry.tag).Pairwise (· < ·) := (List.pairwise_map.mpr hm.1).sublist h
  refine ⟨List.pairwise_map.mp hlt, fun e he => ?_⟩
  obtain ⟨f, hf, htag⟩ := List.mem_map.mp (h.subset (List.mem_map_of_mem he))
  exact htag ▸ hm.2 f hf

theorem orderedMap.filter {m : List TagEntry} (hm : orderedMap m) (p : TagEntry → Bool) : orderedMap (m.filter p) :=
  hm.of_sublist (List.filter_sublist.map _)

theorem orderedMap.map {m : List TagEntry} (hm : orderedMap m) {f : TagEntry → TagEntry} (hf : ∀ e, (f e).tag = e.tag) :
    orderedMap (m.map f) := by
  refine hm.of_sublist ?_
  rw [List.map_map, show TagEntry.tag ∘ f = TagEntry.tag from funext hf]

/-! ### A Tag Map after FETCH_NOTICES (R167) -/

theorem fetchMap_tags (n : Nat) (m : List TagEntry) : ((fetchMap n m).map TagEntry.tag).Sublist (m.map TagEntry.tag) := by
  induction m generalizing n with
  | nil => cases n <;> exact .refl _
  | cons e m ih =>
    cases n with
    | zero => exact .refl _
    | succ n =>
      rw [fetchMap]
      split
      · exact (ih (n + 1)).cons_cons _
      · split
        · exact (ih n).cons _
        · exact (ih n).cons_cons _

/-- An entry that is left names what it named, and one without a slot is as it was. -/
theorem of_mem_fetchMap {n : Nat} {m : List TagEntry} {e : TagEntry} (he : e ∈ fetchMap n m) :
    ∃ f ∈ m, f.tag = e.tag ∧ f.slot = e.slot ∧ (e.slot = none → f = e) := by
  induction m generalizing n with
  | nil => cases n <;> cases he
  | cons f m ih =>
    have htail {n : Nat} (h : e ∈ fetchMap n m) :
        ∃ g ∈ f :: m, g.tag = e.tag ∧ g.slot = e.slot ∧ (e.slot = none → g = e) := by
      obtain ⟨g, hg, hrest⟩ := ih h
      exact ⟨g, List.mem_cons_of_mem _ hg, hrest⟩
    cases n with
    | zero => exact ⟨e, he, rfl, rfl, fun _ => rfl⟩
    | succ n =>
      rw [fetchMap] at he
      split at he
      · obtain rfl | he := List.mem_cons.mp he
        · exact ⟨e, List.mem_cons_self, rfl, rfl, fun _ => rfl⟩
        · exact htail he
      · split at he
        · exact htail he
        · next k hk =>
          obtain rfl | he := List.mem_cons.mp he
          · exact ⟨f, List.mem_cons_self, rfl, rfl, fun h => by rw [hk] at h; cases h⟩
          · exact htail he

/-- An entry that names a slot stays. -/
theorem mem_fetchMap_of_slot {n : Nat} {m : List TagEntry} {e : TagEntry} {k : Slot} (he : e ∈ m) (hk : e.slot = some k) :
    ∃ f ∈ fetchMap n m, f.tag = e.tag ∧ f.slot = some k := by
  induction m generalizing n with
  | nil => cases he
  | cons f m ih =>
    cases n with
    | zero => exact ⟨e, he, rfl, hk⟩
    | succ n =>
      rw [fetchMap]
      obtain rfl | he := List.mem_cons.mp he
      · split
        · exact ⟨e, List.mem_cons_self, rfl, hk⟩
        · simp only [hk]
          exact ⟨_, List.mem_cons_self, rfl, rfl⟩
      · split
        · obtain ⟨g, hg, hrest⟩ := ih (n := n + 1) he
          exact ⟨g, List.mem_cons_of_mem _ hg, hrest⟩
        · split
          · exact ih he
          · obtain ⟨g, hg, hrest⟩ := ih (n := n) he
            exact ⟨g, List.mem_cons_of_mem _ hg, hrest⟩

end Sys2Proof.Machine
end

section
/-! PROOFS. What it is for table, Tag Maps, pool, sessions and marks to agree, fact by fact (`TableFacts`), and the changes that
keep the agreement because no fact reads what they change (`SameShape`). -/

namespace Sys2Proof.Machine

set_option Elab.async false

/-! ### The agreement, fact by fact -/

/-- The conjuncts of `State.TableAgrees` by name. -/
structure State.TableFacts (s : State) : Prop where
  sessions : s.SessionsLegal
  ordered : ∀ x, orderedMap (s.tagMaps.get x)
  names : ∀ x, ∀ e ∈ s.tagMaps.get x, ∀ k, e.slot = some k → ∃ r, s.table[k] = some r ∧ r.owner = x ∧ r.tag = e.tag
  slotless : ∀ x, ∀ e ∈ s.tagMaps.get x, e.slot = none → e.notices.retired = true ∧ x ≠ .sup
  quota : ∀ n : Client, (s.tagMaps.get (.client n)).length ≤ (s.sessions.get (.client n)).quota
  detached : ∀ n : Client, (s.sessions.get (.client n)).state = .detached → s.tagMaps.get (.client n) = []
  mapped : ∀ (k : Slot) (r : Region), s.table[k] = some r → ∃ e ∈ s.tagMaps.get r.owner, e.tag = r.tag ∧ e.slot = some k
  entries : s.pool.Pairwise (fun a b => a.slot ≠ b.slot)
  room : s.pool.length ≤ 32
  admits : ∀ e ∈ s.pool, ∃ r, s.table[e.slot] = some r ∧ r.admits e.kind = true
  staged : ∀ (k : Slot) (r : Region), s.table[k] = some r → s.stagedFits k r = true
  owner : ∀ (k : Slot) (r : Region), s.table[k] = some r → s.ownerFits k r = true
  marks : ∀ k : Slot, s.shown[k] = true → s.table[k].isSome = true

theorem State.entryNames_of_slot {s : State} {x : Session} {e : TagEntry} {k : Slot} (h : e.slot = some k) :
    s.entryNames x e = true ↔ ∃ r, s.table[k] = some r ∧ r.owner = x ∧ r.tag = e.tag := by
  simp [State.entryNames, h, Option.any_eq_true]

theorem State.entryNames_of_slotless {s : State} {x : Session} {e : TagEntry} (h : e.slot = none) :
    s.entryNames x e = true ↔ e.notices.retired = true ∧ x ≠ .sup := by
  simp [State.entryNames, h]

theorem forSessions_iff {P : Session → Prop} : forSessions P ↔ ∀ x, P x :=
  ⟨forSessions.get, fun h => ⟨fun _ => h _, h _⟩⟩

theorem State.tableAgrees_iff {s : State} : s.TableAgrees ↔ s.TableFacts := by
  constructor
  · rintro ⟨hsessions, hordered, hnames, hquota, hdetached, hmapped, hentries, hroom, hadmits, hfits, hmarks⟩
    exact
      { sessions := hsessions
        ordered := hordered.get
        names := fun x e he k hk => (State.entryNames_of_slot hk).mp (hnames.get x e he)
        slotless := fun x e he hk => (State.entryNames_of_slotless hk).mp (hnames.get x e he)
        quota := hquota
        detached := hdetached
        mapped := hmapped
        entries := hentries
        room := hroom
        admits := hadmits
        staged := fun k r hr => (hfits k r hr).1
        owner := fun k r hr => (hfits k r hr).2
        marks := hmarks }
  · intro h
    refine ⟨h.sessions, forSessions_iff.mpr h.ordered, forSessions_iff.mpr fun x e he => ?_, h.quota, h.detached, h.mapped,
      h.entries, h.room, h.admits, fun k r hr => ⟨h.staged k r hr, h.owner k r hr⟩, h.marks⟩
    cases hk : e.slot with
    | none => exact (State.entryNames_of_slotless hk).mpr (h.slotless x e he hk)
    | some k => exact (State.entryNames_of_slot hk).mpr (h.names x e he k hk)

/-! ### What R2 and R26 ask of a region, its entry and its owner -/

/-- `State.stagedFits` and `State.ownerFits` read the region's owner and state, whether it has an entry, and its owner's state. -/
theorem State.stagedFits_congr {s t : State} {j k : Slot} {q r : Region} (howner : r.owner = q.owner) (hstate : r.state = q.state)
    (hentry : (t.entryFor k).isSome = (s.entryFor j).isSome)
    (hsession : (t.sessions.get q.owner).state = (s.sessions.get q.owner).state) :
    t.stagedFits k r = s.stagedFits j q := by
  unfold State.stagedFits Region.pinned
  rw [howner, hstate, hentry, hsession]

theorem State.ownerFits_congr {s t : State} {j k : Slot} {q r : Region} (howner : r.owner = q.owner) (hstate : r.state = q.state)
    (hentry : (t.entryFor k).isSome = (s.entryFor j).isSome)
    (hsession : (t.sessions.get q.owner).state = (s.sessions.get q.owner).state) :
    t.ownerFits k r = s.ownerFits j q := by
  have hnone : (t.entryFor k).isNone = (s.entryFor j).isNone := by
    rw [← Option.not_isSome, ← Option.not_isSome, hentry]
  simp only [State.ownerFits, howner, hstate, hnone, hsession]

theorem Region.admits_congr {q r : Region} (howner : r.owner = q.owner) (hstate : r.state = q.state) (kind : EntryKind) :
    r.admits kind = q.admits kind := by
  simp only [Region.admits, Region.pinned, howner, hstate]

theorem State.ownerFits_of_attached {s : State} {k : Slot} {r : Region}
    (h : (s.sessions.get r.owner).state = .attached) : s.ownerFits k r = true := by
  simp [State.ownerFits, h]

namespace State.TableFacts

variable {s : State} (hs : s.TableFacts)
include hs

/-- SUP is ATTACHED at all times (R24). -/
theorem sup_attached : (s.sessions.get .sup).state = .attached :=
  congrArg SessionRecord.state hs.sessions.2.2

theorem attached_of_change {x : Session} (h : x = .sup ∨ (s.sessions.get x).state = .attached) :
    (s.sessions.get x).state = .attached := by
  obtain rfl | h := h
  · exact hs.sup_attached
  · exact h

/-- The region that a tag names belongs to the sender and has the tag. -/
theorem region_of_tag {x : Session} {t : Word16} {k : Slot} {r : Region} (h : s.regionByTag x t = .ok (k, r)) :
    s.table[k] = some r ∧ r.owner = x ∧ r.tag = t := by
  obtain ⟨-, hr, e, he, htag, hslot⟩ := State.regionByTag_ok h
  obtain ⟨r', hr', howner, hrtag⟩ := hs.names x e he k hslot
  obtain rfl := Option.some.inj (hr.symm.trans hr')
  exact ⟨hr, howner, hrtag.trans htag⟩

theorem entryFor_of_mem {e : PoolEntry} (he : e ∈ s.pool) : s.entryFor e.slot = some e := entryIn_of_mem hs.entries he

/-- The entry of a slot is one that its region admits. -/
theorem admits_of_entryFor {k : Slot} {e : PoolEntry} (he : s.entryFor k = some e) {r : Region} (hr : s.table[k] = some r) :
    r.admits e.kind = true := by
  obtain ⟨hmem, rfl⟩ := mem_of_entryIn he
  obtain ⟨r', hr', hadmits⟩ := hs.admits e hmem
  obtain rfl := Option.some.inj (hr.symm.trans hr')
  exact hadmits

theorem entryFor_of_free {k : Slot} (h : s.table[k] = none) : s.entryFor k = none := by
  rw [State.entryFor_eq, entryIn_eq_none]
  rintro e he rfl
  obtain ⟨r, hr, -⟩ := hs.admits e he
  rw [h] at hr
  cases hr

end State.TableFacts

/-! ### Changes that no fact reads -/

/-- The later state holds the earlier one's regions by owner, tag and state, its entries by slot and kind, the same session states,
and maps whose entries name what they named; a map may lose entries that name no slot. -/
structure SameShape (s t : State) : Prop where
  legal : t.SessionsLegal
  state : ∀ x, (t.sessions.get x).state = (s.sessions.get x).state
  quota : ∀ n : Client, (t.tagMaps.get (.client n)).length ≤ (t.sessions.get (.client n)).quota
  tags : ∀ x, ((t.tagMaps.get x).map TagEntry.tag).Sublist ((s.tagMaps.get x).map TagEntry.tag)
  entry : ∀ x, ∀ e ∈ t.tagMaps.get x, ∃ f ∈ s.tagMaps.get x, f.tag = e.tag ∧ f.slot = e.slot
    ∧ (e.slot = none → f.notices.retired = true → e.notices.retired = true)
  kept : ∀ x, ∀ e ∈ s.tagMaps.get x, ∀ k, e.slot = some k → ∃ f ∈ t.tagMaps.get x, f.tag = e.tag ∧ f.slot = some k
  table : ∀ k : Slot, t.table[k].map (fun r => (r.owner, r.tag, r.state)) = s.table[k].map (fun r => (r.owner, r.tag, r.state))
  pool : t.pool.map (fun e => (e.slot, e.kind)) = s.pool.map (fun e => (e.slot, e.kind))
  shown : ∀ k : Slot, t.shown[k] = true → s.table[k].isSome = true

/-- Entries with the slots and kinds of other entries, slot by slot. -/
theorem entryIn_kind_eq {l m : List PoolEntry}
    (h : l.map (fun e => (e.slot, e.kind)) = m.map (fun e => (e.slot, e.kind))) (k : Slot) :
    (entryIn l k).map PoolEntry.kind = (entryIn m k).map PoolEntry.kind := by
  induction l generalizing m with
  | nil => cases m with
    | nil => rfl
    | cons b m => cases h
  | cons a l ih => cases m with
    | nil => cases h
    | cons b m =>
      simp only [List.map_cons, List.cons.injEq, Prod.mk.injEq] at h
      obtain ⟨⟨hslot, hkind⟩, htail⟩ := h
      rw [entryIn_cons, entryIn_cons, hslot]
      split
      · simp [hkind]
      · exact ih htail

theorem SameShape.entry_isSome {s t : State} (h : SameShape s t) (k : Slot) :
    (t.entryFor k).isSome = (s.entryFor k).isSome := by
  have hk := congrArg Option.isSome (entryIn_kind_eq h.pool k)
  simpa only [Option.isSome_map, ← State.entryFor_eq] using hk

theorem SameShape.region {s t : State} (h : SameShape s t) {k : Slot} {r : Region} (hr : t.table[k] = some r) :
    ∃ q, s.table[k] = some q ∧ r.owner = q.owner ∧ r.tag = q.tag ∧ r.state = q.state := by
  have hk := h.table k
  rw [hr, Option.map_some, eq_comm, Option.map_eq_some_iff] at hk
  obtain ⟨q, hq, heq⟩ := hk
  simp only [Prod.mk.injEq] at heq
  obtain ⟨howner, htag, hstate⟩ := heq
  exact ⟨q, hq, howner.symm, htag.symm, hstate.symm⟩

theorem SameShape.region' {s t : State} (h : SameShape s t) {k : Slot} {q : Region} (hq : s.table[k] = some q) :
    ∃ r, t.table[k] = some r ∧ r.owner = q.owner ∧ r.tag = q.tag ∧ r.state = q.state := by
  have hk := h.table k
  rw [hq, Option.map_some, Option.map_eq_some_iff] at hk
  obtain ⟨r, hr, heq⟩ := hk
  simp only [Prod.mk.injEq] at heq
  obtain ⟨howner, htag, hstate⟩ := heq
  exact ⟨r, hr, howner, htag, hstate⟩

theorem SameShape.tableFacts {s t : State} (h : SameShape s t) (hs : s.TableFacts) : t.TableFacts where
  sessions := h.legal
  ordered x := (hs.ordered x).of_sublist (h.tags x)
  names x e he k hk := by
    obtain ⟨f, hf, htag, hslot, -⟩ := h.entry x e he
    obtain ⟨q, hq, howner, hqtag⟩ := hs.names x f hf k (hslot.trans hk)
    obtain ⟨r, hr, hro, hrt, -⟩ := h.region' hq
    exact ⟨r, hr, hro.trans howner, hrt.trans (hqtag.trans htag)⟩
  slotless x e he hk := by
    obtain ⟨f, hf, -, hslot, hretired⟩ := h.entry x e he
    obtain ⟨hr, hx⟩ := hs.slotless x f hf (hslot.trans hk)
    exact ⟨hretired hk hr, hx⟩
  quota := h.quota
  detached n hst := by
    have hmap := hs.detached n ((h.state _).symm.trans hst)
    have htags := h.tags (.client n)
    rw [hmap, List.map_nil, List.sublist_nil, List.map_eq_nil_iff] at htags
    exact htags
  mapped k r hr := by
    obtain ⟨q, hq, howner, htag, -⟩ := h.region hr
    obtain ⟨e, he, hetag, heslot⟩ := hs.mapped k q hq
    obtain ⟨f, hf, hftag, hfslot⟩ := h.kept q.owner e he k heslot
    exact ⟨f, howner ▸ hf, hftag.trans (hetag.trans htag.symm), hfslot⟩
  entries := by
    have hp : (s.pool.map (fun e => (e.slot, e.kind))).Pairwise (fun a b => a.1 ≠ b.1) := List.pairwise_map.mpr hs.entries
    rw [← h.pool] at hp
    exact (List.pairwise_map (f := fun e : PoolEntry => (e.slot, e.kind))).mp hp
  room := by
    have hlen := congrArg List.length h.pool
    rw [List.length_map, List.length_map] at hlen
    exact hlen ▸ hs.room
  admits e he := by
    have hmem : (e.slot, e.kind) ∈ t.pool.map (fun e => (e.slot, e.kind)) := List.mem_map_of_mem he
    rw [h.pool] at hmem
    obtain ⟨f, hf, heq⟩ := List.mem_map.mp hmem
    simp only [Prod.mk.injEq] at heq
    obtain ⟨hslot, hkind⟩ := heq
    obtain ⟨q, hq, hadmits⟩ := hs.admits f hf
    simp only [hslot] at hq
    obtain ⟨r, hr, howner, -, hstate⟩ := h.region' hq
    exact ⟨r, hr, by rw [Region.admits_congr howner hstate, ← hkind]; exact hadmits⟩
  staged k r hr := by
    obtain ⟨q, hq, howner, -, hstate⟩ := h.region hr
    rw [State.stagedFits_congr howner hstate (h.entry_isSome k) (h.state _)]
    exact hs.staged k q hq
  owner k r hr := by
    obtain ⟨q, hq, howner, -, hstate⟩ := h.region hr
    rw [State.ownerFits_congr howner hstate (h.entry_isSome k) (h.state _)]
    exact hs.owner k q hq
  marks k hk := by
    obtain ⟨q, hq⟩ := Option.isSome_iff_exists.mp (h.shown k hk)
    obtain ⟨r, hr, -⟩ := h.region' hq
    exact Option.isSome_iff_exists.mpr ⟨r, hr⟩

/-- A change that leaves maps, table and pool, keeps each session's state and leaves marks of regions only. -/
theorem SameShape.of_records {s t : State} (hs : s.TableFacts) (hlegal : t.SessionsLegal) (htable : t.table = s.table)
    (htags : t.tagMaps = s.tagMaps) (hpool : t.pool = s.pool)
    (hshown : ∀ k : Slot, t.shown[k] = true → s.shown[k] = true)
    (hstate : ∀ x, (t.sessions.get x).state = (s.sessions.get x).state)
    (hquota : ∀ n : Client, (s.tagMaps.get (.client n)).length ≤ (t.sessions.get (.client n)).quota) : SameShape s t where
  legal := hlegal
  state := hstate
  quota n := by rw [htags]; exact hquota n
  tags x := by rw [htags]
  entry x e he := ⟨e, htags ▸ he, rfl, rfl, fun _ h => h⟩
  kept x e he k hk := ⟨e, htags.symm ▸ he, rfl, hk⟩
  table k := by rw [htable]
  pool := by rw [hpool]
  shown k hk := hs.marks k (hshown k hk)

/-- A change of blocks that the agreement does not read. -/
theorem State.TableFacts.of_eq {s t : State} (hs : s.TableFacts) (htable : t.table = s.table) (htags : t.tagMaps = s.tagMaps)
    (hpool : t.pool = s.pool) (hsessions : t.sessions = s.sessions) (hshown : t.shown = s.shown) : t.TableFacts :=
  SameShape.tableFacts (.of_records hs (hs.sessions.of_sessions_eq hsessions) htable htags hpool (fun k h => hshown ▸ h)
    (fun x => by rw [hsessions]) (fun n => by rw [hsessions]; exact hs.quota n)) hs

end Sys2Proof.Machine
end

section
/-! PROOFS. The effects of requests keep table, Tag Maps, pool, sessions and marks in agreement (R9, R17, R19 to R21, R32,
R42 to R47). -/

namespace Sys2Proof.Machine

set_option Elab.async false

theorem State.stagedFits_iff {s : State} {k : Slot} {r : Region} :
    s.stagedFits k r = true ↔
      (r.state = .stagedNew → (s.entryFor k).isSome = true)
        ∧ (r.state = .retiring → (s.entryFor k).isSome = true
            ∨ (r.owner ≠ .sup ∧ (s.sessions.get r.owner).state = .draining))
        ∧ (r.state = .lapsed → r.owner ≠ .sup) := by
  unfold State.stagedFits Region.pinned
  cases hst : r.state with
  | stagedNew => simp
  | live => simp
  | lapsed => simp
  | retiring => by_cases ho : r.owner = .sup <;> simp [ho]

theorem State.ownerFits_iff {s : State} {k : Slot} {r : Region} :
    s.ownerFits k r = true ↔
      (s.sessions.get r.owner).state ≠ .detached
        ∧ ((s.sessions.get r.owner).state = .draining → r.state = .retiring ∧ s.entryFor k = none) := by
  unfold State.ownerFits
  cases (s.sessions.get r.owner).state <;> simp

theorem Region.admits_pinned {r : Region} {kind : EntryKind} (h : r.admits kind = true) :
    (kind = .new → r.state = .stagedNew ∧ r.owner ≠ .sup) ∧ (kind = .pin → r.state = .stagedNew ∧ r.owner = .sup)
      ∧ (kind = .amend → r.state = .live) ∧ (kind = .revive → r.state = .lapsed ∧ r.owner ≠ .sup)
      ∧ (kind = .release → r.state = .retiring ∧ r.owner ≠ .sup) ∧ (kind = .unpin → r.state = .retiring ∧ r.owner = .sup) := by
  cases kind <;> simpa [Region.admits, Region.pinned] using h

theorem State.poolFull_eq_false {s : State} : s.poolFull = false ↔ s.pool.length < 32 := by
  rw [State.poolFull, decide_eq_false_iff_not]
  exact not_le

theorem State.stageRemoval_table (s : State) (k j : Slot) (r : Region) (kind : EntryKind) :
    (s.stageRemoval k r kind).table[j] = if k = j then some r.retire else s.table[j] := by
  unfold State.stageRemoval
  split <;> exact getElem_set_slot _ _ _ _

namespace State.TableFacts

variable {s : State} (hs : s.TableFacts)
include hs

/-! ### Entries appended and changed where they stand -/

/-- An entry appended for a region that admits it and has none, of an owner that does not depart. -/
theorem stage {e : PoolEntry} {r : Region} (hr : s.table[e.slot] = some r) (hnone : s.entryFor e.slot = none)
    (hadmits : r.admits e.kind = true) (hroom : s.poolFull = false) (howner : (s.sessions.get r.owner).state ≠ .draining) :
    (s.stage e).TableFacts :=
  { hs with
    entries := by
      refine List.pairwise_append.mpr ⟨hs.entries, List.pairwise_singleton _ _, fun a ha b hb => ?_⟩
      rw [List.mem_singleton.mp hb]
      exact entryIn_eq_none.mp hnone a ha
    room := by
      have := State.poolFull_eq_false.mp hroom
      simpa [State.stage] using this
    admits := by
      intro f hf
      obtain hf | hf := List.mem_append.mp hf
      · exact hs.admits f hf
      · obtain rfl := List.mem_singleton.mp hf
        exact ⟨r, hr, hadmits⟩
    staged := by
      intro k q hq
      obtain ⟨hnew, hretiring, hlapsed⟩ := State.stagedFits_iff.mp (hs.staged k q hq)
      have hmono (h : (s.entryFor k).isSome = true) : ((s.stage e).entryFor k).isSome = true := by
        rw [State.entryFor_stage, Option.isSome_or, h, Bool.true_or]
      exact State.stagedFits_iff.mpr ⟨fun h => hmono (hnew h), fun h => (hretiring h).imp hmono id, hlapsed⟩
    owner := by
      intro k q hq
      obtain ⟨hdetached, hdraining⟩ := State.ownerFits_iff.mp (hs.owner k q hq)
      refine State.ownerFits_iff.mpr ⟨hdetached, fun h => ⟨(hdraining h).1, ?_⟩⟩
      rw [State.entryFor_stage, (hdraining h).2, Option.none_or, if_neg]
      rintro rfl
      obtain rfl := Option.some.inj (hr.symm.trans hq)
      exact howner h }

/-- An entry changed where it stands, with its slot and its kind. -/
theorem restage {k : Slot} {f : PoolEntry → PoolEntry} (hslot : ∀ e, (f e).slot = e.slot) (hkind : ∀ e, (f e).kind = e.kind) :
    (s.restage k f).TableFacts := by
  refine SameShape.tableFacts ?_ hs
  exact
    { legal := hs.sessions
      state := fun _ => rfl
      quota := hs.quota
      tags := fun _ => .refl _
      entry := fun _ e he => ⟨e, he, rfl, rfl, fun _ h => h⟩
      kept := fun _ e he _ hk => ⟨e, he, rfl, hk⟩
      table := fun _ => rfl
      pool := by
        simp only [State.restage, List.map_map]
        refine List.map_congr_left (fun e _ => ?_)
        simp only [Function.comp_apply]
        split <;> simp [hslot, hkind]
      shown := hs.marks }

theorem stageAmend {k : Slot} {r : Region} {f : StagedFields} (hr : s.table[k] = some r)
    (hlive : r.state = .stagedNew ∨ r.state = .live) (howner : (s.sessions.get r.owner).state = .attached)
    (hroom : s.entryFor k = none → s.poolFull = false) : (s.stageAmend k f).TableFacts := by
  unfold State.stageAmend
  cases he : s.entryFor k with
  | some e => exact hs.restage (fun _ => rfl) (fun _ => rfl)
  | none =>
    have hst : r.state = .live := hlive.resolve_left fun hnew => by
      have hsome := (State.stagedFits_iff.mp (hs.staged k r hr)).1 hnew
      rw [he] at hsome
      cases hsome
    exact hs.stage hr he (by simp [Region.admits, hst]) (hroom he) (by rw [howner]; nofun)

theorem revive {k : Slot} {r : Region} (hr : s.table[k] = some r) (hlapsed : r.state = .lapsed)
    (hentry : s.entryFor k = none) (hroom : s.poolFull = false) : (s.stage (reviveEntry k)).TableFacts := by
  have hclient : r.owner ≠ .sup := (State.stagedFits_iff.mp (hs.staged k r hr)).2.2 hlapsed
  refine hs.stage hr hentry (by simp [reviveEntry, Region.admits, Region.pinned, hlapsed, hclient]) hroom fun hd => ?_
  have := ((State.ownerFits_iff.mp (hs.owner k r hr)).2 hd).1
  rw [hlapsed] at this
  cases this

/-! ### Regions changed, removed and freed -/

theorem putRegion {k : Slot} {q r : Region} (hq : s.table[k] = some q) (howner : r.owner = q.owner) (htag : r.tag = q.tag)
    (hstate : r.state = q.state) : (s.putRegion k r).TableFacts := by
  refine SameShape.tableFacts ?_ hs
  exact
    { legal := hs.sessions
      state := fun _ => rfl
      quota := hs.quota
      tags := fun _ => .refl _
      entry := fun _ e he => ⟨e, he, rfl, rfl, fun _ h => h⟩
      kept := fun _ e he _ hk => ⟨e, he, rfl, hk⟩
      table := fun j => by
        rw [State.putRegion, getElem_set_slot]
        split
        · next h => subst h; rw [hq, Option.map_some, Option.map_some, howner, htag, hstate]
        · rfl
      pool := rfl
      shown := hs.marks }

/-- The pool once a removal is staged for a slot: one entry of the kind there, and every other slot's as it was. -/
theorem stageRemoval_pool {k : Slot} {kind : EntryKind} (r : Region) (hroom : s.entryFor k = none → s.poolFull = false) :
    (∀ e ∈ (s.stageRemoval k r kind).pool, (e.slot = k ∧ e.kind = kind) ∨ (e.slot ≠ k ∧ e ∈ s.pool))
      ∧ (s.stageRemoval k r kind).pool.Pairwise (fun a b => a.slot ≠ b.slot)
      ∧ (s.stageRemoval k r kind).pool.length ≤ 32
      ∧ ((s.stageRemoval k r kind).entryFor k).isSome = true
      ∧ ∀ j, j ≠ k → (s.stageRemoval k r kind).entryFor j = s.entryFor j := by
  unfold State.stageRemoval
  cases he : s.entryFor k with
  | none =>
    refine ⟨fun e hmem => ?_, ?_, ?_, ?_, fun j hj => ?_⟩
    · obtain hmem | hmem := List.mem_append.mp hmem
      · exact .inr ⟨entryIn_eq_none.mp he e hmem, hmem⟩
      · obtain rfl := List.mem_singleton.mp hmem
        exact .inl ⟨rfl, rfl⟩
    · refine List.pairwise_append.mpr ⟨hs.entries, List.pairwise_singleton _ _, fun a ha b hb => ?_⟩
      rw [List.mem_singleton.mp hb]
      exact entryIn_eq_none.mp he a ha
    · have := State.poolFull_eq_false.mp (hroom he)
      simpa [State.stage] using this
    · show ((s.stage _).entryFor k).isSome = true
      rw [State.entryFor_stage, he, Option.none_or, if_pos rfl]
      rfl
    · show (s.stage _).entryFor j = s.entryFor j
      rw [State.entryFor_stage, if_neg hj.symm, Option.or_none]
  | some e =>
    have hslot (e : PoolEntry) : (e.become kind).slot = e.slot := rfl
    refine ⟨fun f hmem => ?_, ?_, ?_, ?_, fun j hj => ?_⟩
    · obtain ⟨f, hf, rfl⟩ := List.mem_map.mp hmem
      by_cases hk : f.slot = k
      · rw [if_pos hk]
        exact .inl ⟨hk, rfl⟩
      · rw [if_neg hk]
        exact .inr ⟨hk, hf⟩
    · refine List.pairwise_map.mpr (hs.entries.imp fun {a b} hab => ?_)
      split <;> split <;> exact hab
    · simpa [State.restage] using hs.room
    · show ((s.restage k (PoolEntry.become kind)).entryFor k).isSome = true
      rw [State.entryFor_restage s hslot, if_pos rfl, he]
      rfl
    · show (s.restage k (PoolEntry.become kind)).entryFor j = s.entryFor j
      rw [State.entryFor_restage s hslot, if_neg hj]

theorem stageRemoval {k : Slot} {r : Region} {kind : EntryKind} (hr : s.table[k] = some r)
    (hkind : kind = if r.owner = .sup then .unpin else .release) (howner : (s.sessions.get r.owner).state = .attached)
    (hroom : s.entryFor k = none → s.poolFull = false) : (s.stageRemoval k r kind).TableFacts := by
  have htable := fun j => s.stageRemoval_table k j r kind
  obtain ⟨hmem, hpairwise, hlength, hsome, hother⟩ := hs.stageRemoval_pool (k := k) (kind := kind) r hroom
  have htags : (s.stageRemoval k r kind).tagMaps = s.tagMaps := by unfold State.stageRemoval; split <;> rfl
  have hsessions : (s.stageRemoval k r kind).sessions = s.sessions := s.stageRemoval_sessions k r kind
  have hshown : (s.stageRemoval k r kind).shown = s.shown := by unfold State.stageRemoval; split <;> rfl
  generalize s.stageRemoval k r kind = t at *
  have hpast {j : Slot} (hj : ¬ k = j) : (t.entryFor j).isSome = (s.entryFor j).isSome := by
    rw [hother j (Ne.symm hj)]
  exact
    { sessions := hs.sessions.of_sessions_eq hsessions
      ordered := by rw [htags]; exact hs.ordered
      names := by
        intro x e he j hj
        rw [htags] at he
        obtain ⟨q, hq, hqo, hqt⟩ := hs.names x e he j hj
        rw [htable]
        split
        · next h =>
          subst h
          obtain rfl := Option.some.inj (hr.symm.trans hq)
          exact ⟨r.retire, rfl, hqo, hqt⟩
        · exact ⟨q, hq, hqo, hqt⟩
      slotless := by rw [htags]; exact hs.slotless
      quota := by rw [htags, hsessions]; exact hs.quota
      detached := by rw [htags, hsessions]; exact hs.detached
      mapped := by
        intro j q hq
        rw [htable] at hq
        rw [htags]
        split at hq
        · next h => subst h; obtain rfl := Option.some.inj hq; exact hs.mapped k r hr
        · exact hs.mapped j q hq
      entries := hpairwise
      room := hlength
      admits := by
        intro e he
        obtain ⟨rfl, rfl⟩ | ⟨hne, he⟩ := hmem e he
        · refine ⟨r.retire, by rw [htable, if_pos rfl], ?_⟩
          rw [hkind]
          by_cases ho : r.owner = .sup <;> simp [Region.admits, Region.retire, Region.pinned, ho]
        · obtain ⟨q, hq, hadmits⟩ := hs.admits e he
          exact ⟨q, by rw [htable, if_neg hne.symm]; exact hq, hadmits⟩
      staged := by
        intro j q hq
        rw [htable] at hq
        split at hq
        · next h =>
          subst h
          obtain rfl := Option.some.inj hq
          exact State.stagedFits_iff.mpr ⟨fun _ => hsome, fun _ => .inl hsome, nofun⟩
        · next h =>
          rw [State.stagedFits_congr rfl rfl (hpast h) (by rw [hsessions])]
          exact hs.staged j q hq
      owner := by
        intro j q hq
        rw [htable] at hq
        split at hq
        · obtain rfl := Option.some.inj hq
          exact State.ownerFits_of_attached (by rw [hsessions]; exact howner)
        · next h =>
          rw [State.ownerFits_congr rfl rfl (hpast h) (by rw [hsessions])]
          exact hs.owner j q hq
      marks := by
        intro j hj
        rw [hshown] at hj
        rw [htable]
        split
        · rfl
        · exact hs.marks j hj }

/-- A STAGED_NEW region freed with its entry and its Tag Map entry. -/
theorem freeStaged {k : Slot} {r : Region} (hr : s.table[k] = some r) : (s.freeStaged k r.owner).TableFacts := by
  have htable (j : Slot) : (s.freeStaged k r.owner).table[j] = if k = j then none else s.table[j] := getElem_set_slot _ _ _ _
  have hshown (j : Slot) : (s.freeStaged k r.owner).shown[j] = if k = j then false else s.shown[j] := getElem_set_slot _ _ _ _
  have htags (x : Session) : (s.freeStaged k r.owner).tagMaps.get x =
      if x = r.owner then (s.tagMaps.get x).filter (fun e => decide (e.slot ≠ some k)) else s.tagMaps.get x := by
    show ((s.unstage k).freeRegion k r.owner).tagMaps.get x = _
    rw [State.freeRegion_tagMaps, dropSlot_eq]
    exact if_congr eq_comm rfl rfl
  have hentry (j : Slot) : (s.freeStaged k r.owner).entryFor j = if j = k then none else s.entryFor j :=
    s.entryFor_unstage k j
  have hpool : (s.freeStaged k r.owner).pool = s.pool.filter (fun e => e.slot != k) := rfl
  have hsessions : (s.freeStaged k r.owner).sessions = s.sessions := rfl
  generalize s.freeStaged k r.owner = t at *
  have hsub (x : Session) : (t.tagMaps.get x).Sublist (s.tagMaps.get x) := by
    rw [htags]
    split
    · exact List.filter_sublist
    · exact .refl _
  have hregion {j : Slot} {q : Region} (hq : t.table[j] = some q) : j ≠ k ∧ s.table[j] = some q := by
    rw [htable] at hq
    split at hq
    · cases hq
    · next h => exact ⟨Ne.symm h, hq⟩
  exact
    { sessions := hs.sessions.of_sessions_eq hsessions
      ordered := fun x => (hs.ordered x).of_sublist ((hsub x).map _)
      names := by
        intro x e he j hj
        obtain ⟨q, hq, hqo, hqt⟩ := hs.names x e ((hsub x).subset he) j hj
        refine ⟨q, ?_, hqo, hqt⟩
        rw [htable, if_neg ?_]
        · exact hq
        · rintro rfl
          obtain rfl := Option.some.inj (hr.symm.trans hq)
          rw [htags, if_pos hqo.symm] at he
          simp [hj] at he
      slotless := fun x e he => hs.slotless x e ((hsub x).subset he)
      quota := fun n => ((hsub _).length_le).trans (by rw [hsessions]; exact hs.quota n)
      detached := fun n hst => by
        rw [hsessions] at hst
        exact List.sublist_nil.mp (hs.detached n hst ▸ hsub (.client n))
      mapped := by
        intro j q hq
        obtain ⟨hj, hq⟩ := hregion hq
        obtain ⟨e, he, htag, hslot⟩ := hs.mapped j q hq
        refine ⟨e, ?_, htag, hslot⟩
        rw [htags]
        split
        · exact List.mem_filter.mpr ⟨he, by simp [hslot, hj]⟩
        · exact he
      entries := by rw [hpool]; exact hs.entries.sublist List.filter_sublist
      room := by rw [hpool]; exact (List.length_filter_le _ _).trans hs.room
      admits := by
        intro e he
        rw [hpool] at he
        obtain ⟨he, hne⟩ := List.mem_filter.mp he
        obtain ⟨q, hq, hadmits⟩ := hs.admits e he
        refine ⟨q, ?_, hadmits⟩
        rw [htable, if_neg (fun h => by simp [h] at hne)]
        exact hq
      staged := by
        intro j q hq
        obtain ⟨hj, hq⟩ := hregion hq
        rw [State.stagedFits_congr (s := s) (j := j) rfl rfl (by rw [hentry, if_neg hj]) (by rw [hsessions])]
        exact hs.staged j q hq
      owner := by
        intro j q hq
        obtain ⟨hj, hq⟩ := hregion hq
        rw [State.ownerFits_congr (s := s) (j := j) rfl rfl (by rw [hentry, if_neg hj]) (by rw [hsessions])]
        exact hs.owner j q hq
      marks := by
        intro j hj
        rw [hshown] at hj
        split at hj
        · cases hj
        · next h => rw [htable, if_neg h]; exact hs.marks j hj }

end State.TableFacts

end Sys2Proof.Machine
end

section
/-! PROOFS. Table, Tag Maps, pool, sessions and marks agree after every step (R9, R19 to R21, R26, R42, R123). -/

namespace Sys2Proof.Machine

set_option Elab.async false

/-! ### What a commit leaves of a slot, as the agreement reads it -/

/-- What the count of a commit may make of a settled region (R80 to R84). -/
inductive CountsTo (grace : Nat) (r : Region) : Counted → Prop
  | kept : CountsTo grace r (.kept r)
  | remaining {m : Nat} (hst : r.state = .live) (h : r.remaining = some (m + 2)) :
    CountsTo grace r (.kept { r with remaining := some (m + 1) })
  | grace {g : Nat} (hst : r.state = .lapsed) (h : r.graceLeft = some (g + 2)) :
    CountsTo grace r (.kept { r with graceLeft := some (g + 1) })
  | lapsed (howner : r.owner ≠ .sup) (hst : r.state = .live) (hgrace : grace ≠ 0) :
    CountsTo grace r (.lapsed { r with state := .lapsed, remaining := some 0, graceLeft := some grace })
  | retired (howner : r.owner ≠ .sup) (l : Bool) : CountsTo grace r (.retired l)

theorem State.countedRegion_countsTo {s : State} {k : Slot} {r : Region} (h : s.settledRegion k = some r) :
    CountsTo s.scan.grace r (s.countedRegion k) := by
  unfold State.countedRegion
  simp only [h]
  split
  · exact .kept
  · next n ho =>
    have howner : r.owner ≠ .sup := by rw [ho]; nofun
    split
    · exact .kept
    · split
      · split
        · exact .kept
        · exact .remaining ‹_› ‹_›
      · split
        · exact .kept
        · split
          · exact .retired howner true
          · exact .lapsed howner ‹_› ‹_›
      · exact .grace ‹_› ‹_›
      · exact .retired howner false
      · exact .kept

/-- A state that parts 1, 2 and 4 of a commit leave, with what part 3 makes of each slot: nothing, or the lease count. -/
structure CommitsTo (s t : State) (count : Slot → Counted) : Prop where
  free : ∀ k, s.settledRegion k = none → count k = .free
  counts : ∀ k r, s.settledRegion k = some r → CountsTo s.scan.grace r (count k)
  table : ∀ k : Slot, t.table[k] = (count k).record.map s.presented
  tagMaps : ∀ x, t.tagMaps.get x =
    if s.drains x then [] else ((s.tagMaps.get x).filter (fun e => !freedEntry s.pool s x e)).map (countEntry count)
  pool : t.pool = []
  sessions : ∀ x, t.sessions.get x = (if x = .sup then s.sessions.sup else (s.sessions.get x).settle).marked
  shown : ∀ k : Slot, t.shown[k] = (s.shown[k] && (s.table[k].isNone || t.table[k].isSome))
  panel : t.scan.width = s.scan.width ∧ t.scan.height = s.scan.height

theorem State.commitParts_commitsTo {s : State} (hp : s.pool.Pairwise (fun a b => a.slot ≠ b.slot)) :
    CommitsTo s s.commitParts s.countedRegion where
  free _ h := State.countedRegion_of_none h
  counts _ _ h := State.countedRegion_countsTo h
  table := State.commitParts_table hp
  tagMaps := State.commitParts_tagMaps hp
  pool := s.commitParts_pool
  sessions := s.commitParts_sessions
  shown k := (s.commitParts_shrinks k).2
  panel := by rw [State.commitParts_scan]; exact ⟨rfl, rfl⟩

/-- FORCE_COMMIT counts no lease (R95): each settled region is kept. -/
def State.uncounted (s : State) (k : Slot) : Counted :=
  match s.settledRegion k with
  | none => .free
  | some r => .kept r

theorem countEntry_uncounted (s : State) (e : TagEntry) : countEntry s.uncounted e = e := by
  rw [countEntry_eq]
  cases hk : e.slot with
  | none => rfl
  | some k =>
    rw [Option.map_some, State.uncounted]
    cases s.settledRegion k <;> rfl

/-- For an entry of its owner's map, whether parts 1 and 2 free its region is whether the pool entry there does. -/
theorem freedEntry_named {l : List PoolEntry} {s : State} {e : TagEntry} {k : Slot} {g : Region} (hslot : e.slot = some k)
    (hg : s.table[k] = some g) : freedEntry l s g.owner e = (entryIn l k).any PoolEntry.frees := by
  rw [freedEntry, hslot, Option.any_some, hg, Option.any_some, decide_eq_true rfl, Bool.true_and]

theorem State.forceParts_commitsTo {s : State} (hp : s.pool.Pairwise (fun a b => a.slot ≠ b.slot)) :
    CommitsTo s s.forceParts s.uncounted where
  free k h := by simp [State.uncounted, h]
  counts k r h := by simpa [State.uncounted, h] using CountsTo.kept
  table k := by
    rw [State.forceParts_table hp, State.uncounted]
    cases s.settledRegion k <;> rfl
  tagMaps x := by
    rw [State.forceParts_tagMaps hp, show countEntry s.uncounted = id from funext (countEntry_uncounted s), List.map_id]
  pool := s.forceParts_pool
  sessions := s.forceParts_sessions
  shown k := (s.forceParts_shrinks k).2
  panel := by rw [s.forceParts_outside]; exact ⟨rfl, rfl⟩

theorem CountsTo.ne_free {g : Nat} {r : Region} {c : Counted} (h : CountsTo g r c) : c ≠ .free := by
  cases h <;> exact nofun

/-- The record after the count: the settled region's owner, tag, and its state or LAPSED for LIVE. -/
theorem CountsTo.record {g : Nat} {r q : Region} {c : Counted} (h : CountsTo g r c) (hq : c.record = some q) :
    q.owner = r.owner ∧ q.tag = r.tag ∧ (q.state = r.state ∨ (q.owner ≠ .sup ∧ r.state = .live ∧ q.state = .lapsed)) := by
  cases h with
  | kept => cases hq; exact ⟨rfl, rfl, .inl rfl⟩
  | remaining hst h => cases hq; exact ⟨rfl, rfl, .inl rfl⟩
  | grace hst h => cases hq; exact ⟨rfl, rfl, .inl rfl⟩
  | lapsed howner hst hgrace => cases hq; exact ⟨rfl, rfl, .inr ⟨howner, hst, rfl⟩⟩
  | retired howner l => cases hq

theorem afterEntry_tag {e : Option PoolEntry} {r g : Region} (h : afterEntry e g = some r) : r.tag = g.tag := by
  match e with
  | none => cases h; rfl
  | some ⟨_, kind, _⟩ => cases kind <;> cases h <;> rfl

/-- A settled region stems from the region of its slot, and its client stays. -/
theorem State.settledRegion_eq_some {s : State} {k : Slot} {r : Region} :
    s.settledRegion k = some r ↔
      ∃ g, s.table[k] = some g ∧ afterEntry (s.entryFor k) g = some r ∧ s.drains g.owner = false := by
  unfold State.settledRegion
  rw [Option.bind_eq_some_iff]
  simp only [Option.bind_eq_some_iff]
  constructor
  · rintro ⟨r', ⟨g, hg, hafter⟩, hkept⟩
    refine ⟨g, hg, ?_⟩
    have ho := afterEntry_owner hafter
    cases howner : r'.owner with
    | sup =>
      simp only [howner, Option.some.injEq] at hkept
      exact ⟨hkept ▸ hafter, by rw [← ho, howner]; rfl⟩
    | client n =>
      simp only [howner] at hkept
      split at hkept
      · cases hkept
      · next hd => exact ⟨Option.some.inj hkept ▸ hafter, by simp [State.drains, ← ho, howner, hd]⟩
  · rintro ⟨g, hg, hafter, hdrains⟩
    refine ⟨r, ⟨g, hg, hafter⟩, ?_⟩
    have ho := afterEntry_owner hafter
    cases howner : r.owner with
    | sup => rfl
    | client n =>
      have : (s.sessions.get (.client n)).pending ≠ .drain := by
        simpa [State.drains, ← ho, howner] using hdrains
      simp [this]

namespace State.TableFacts

variable {s : State} (hs : s.TableFacts)
include hs

/-- After parts 1 and 2 a region is LIVE, or LAPSED and a client's (R12, R14, R15). -/
theorem settled_state {k : Slot} {r : Region} (h : s.settledRegion k = some r) :
    r.state = .live ∨ (r.state = .lapsed ∧ r.owner ≠ .sup) := by
  obtain ⟨g, hg, hafter, hdrains⟩ := State.settledRegion_eq_some.mp h
  obtain ⟨hnew, hretiring, hlapsed⟩ := State.stagedFits_iff.mp (hs.staged k g hg)
  cases he : s.entryFor k with
  | none =>
    rw [he] at hafter hnew hretiring
    obtain rfl : g = r := Option.some.inj hafter
    cases hst : g.state with
    | live => exact .inl rfl
    | lapsed => exact .inr ⟨rfl, hlapsed hst⟩
    | stagedNew => cases hnew hst
    | retiring =>
      obtain h | ⟨hclient, hdraining⟩ := hretiring hst
      · cases h
      · exfalso
        cases ho : g.owner with
        | sup => exact hclient ho
        | client n =>
          rw [ho] at hdraining hdrains
          obtain ⟨-, -, -, -, hfits, -⟩ := hs.sessions.1 n
          have hpending : (s.sessions.get (.client n)).pending = .drain := by
            cases hp : (s.sessions.get (.client n)).pending <;> simp [SessionRecord.pendingFits, hdraining, hp] at hfits ⊢
          simp [State.drains, hpending] at hdrains
  | some e =>
    rw [he] at hafter
    have hadmits := hs.admits_of_entryFor he hg
    obtain ⟨slot, kind, fields⟩ := e
    obtain ⟨-, -, hamend, -⟩ := Region.admits_pinned hadmits
    cases kind with
    | new => cases hafter; exact .inl rfl
    | pin => cases hafter; exact .inl rfl
    | amend => cases hafter; exact .inl (hamend rfl)
    | revive => cases hafter; exact .inl rfl
    | release => cases hafter
    | unpin => cases hafter

/-- A client that does not depart is ATTACHED or SUSPENDED after a commit (R78). -/
theorem stateAfter_of_not_drains {n : Client} (hd : s.drains (.client n) = false)
    (hdetached : (s.sessions.get (.client n)).state ≠ .detached) :
    (s.sessions.get (.client n)).stateAfter = .attached ∨ (s.sessions.get (.client n)).stateAfter = .suspended := by
  obtain ⟨-, -, -, -, hfits, -⟩ := hs.sessions.1 n
  have hpending : (s.sessions.get (.client n)).pending ≠ .drain := by simpa [State.drains] using hd
  revert hfits hpending hdetached
  unfold SessionRecord.stateAfter SessionRecord.pendingFits
  cases (s.sessions.get (.client n)).pending <;> cases (s.sessions.get (.client n)).state <;> simp

end State.TableFacts

/-! ### The agreement after a commit -/

namespace CommitsTo

variable {s t : State} {count : Slot → Counted} (h : CommitsTo s t count)
include h

/-- A region that a commit leaves stems from a settled one. -/
theorem region {k : Slot} {r : Region} (hr : t.table[k] = some r) :
    ∃ q p, s.settledRegion k = some q ∧ CountsTo s.scan.grace q (count k) ∧ (count k).record = some p ∧ r = s.presented p := by
  rw [h.table, Option.map_eq_some_iff] at hr
  obtain ⟨p, hp, rfl⟩ := hr
  cases hq : s.settledRegion k with
  | none => rw [h.free k hq] at hp; cases hp
  | some q => exact ⟨q, p, rfl, h.counts k q hq, hp, rfl⟩

/-- Its owner, tag and state, from the region that was in its slot. -/
theorem region_owner {k : Slot} {r : Region} (hr : t.table[k] = some r) (hs : s.TableFacts) :
    ∃ g, s.table[k] = some g ∧ r.owner = g.owner ∧ r.tag = g.tag ∧ s.drains g.owner = false
      ∧ (s.entryFor k).any PoolEntry.frees = false ∧ (r.state = .live ∨ (r.state = .lapsed ∧ r.owner ≠ .sup)) := by
  obtain ⟨q, p, hq, hcounts, hp, rfl⟩ := h.region hr
  obtain ⟨g, hg, hafter, -⟩ := State.settledRegion_eq_some.mp hq
  obtain ⟨hdrains, hfrees, howner⟩ := State.survives_of_settled hg hq
  obtain ⟨hpo, hpt, hpst⟩ := hcounts.record hp
  have hstate := hs.settled_state hq
  refine ⟨g, hg, hpo.trans howner, hpt.trans (afterEntry_tag hafter), hdrains, hfrees, ?_⟩
  show p.state = .live ∨ (p.state = .lapsed ∧ p.owner ≠ .sup)
  obtain hpst | ⟨hclient, -, hlapsed⟩ := hpst
  · rw [hpst, hpo]; exact hstate
  · exact .inr ⟨hlapsed, hclient⟩

/-- A client's state after a commit (R78). -/
theorem client_state (n : Client) : (t.sessions.get (.client n)).state = (s.sessions.get (.client n)).stateAfter := by
  rw [h.sessions, if_neg (by simp)]
  show (s.sessions.get (.client n)).settle.state = _
  unfold SessionRecord.settle SessionRecord.stateAfter
  cases (s.sessions.get (.client n)).pending <;> rfl

/-- An entry of a map after a commit stems from one of the same tag that no entry freed. -/
theorem of_mem_map {x : Session} {e : TagEntry} (he : e ∈ t.tagMaps.get x) :
    s.drains x = false ∧ ∃ f ∈ s.tagMaps.get x, freedEntry s.pool s x f = false ∧ e = countEntry count f := by
  rw [h.tagMaps] at he
  split at he
  · cases he
  · next hd =>
    obtain ⟨f, hf, rfl⟩ := List.mem_map.mp he
    obtain ⟨hf, hfreed⟩ := List.mem_filter.mp hf
    exact ⟨by simpa using hd, f, hf, by simpa using hfreed, rfl⟩

omit h in
theorem countEntry_tag (count : Slot → Counted) (e : TagEntry) : (countEntry count e).tag = e.tag := by
  rw [countEntry_eq]
  split <;> rfl

theorem tableFacts (hs : s.TableFacts) (hlegal : t.SessionsLegal) : t.TableFacts where
  sessions := hlegal
  ordered x := by
    rw [h.tagMaps]
    split
    · exact ⟨.nil, nofun⟩
    · exact ((hs.ordered x).filter _).map (countEntry_tag count)
  names x e he k hk := by
    obtain ⟨hdrains, f, hf, hfreed, rfl⟩ := h.of_mem_map he
    obtain ⟨hslot, hretired⟩ : f.slot = some k ∧ ∀ l, count k ≠ .retired l := by
      rw [countEntry_eq] at hk
      split at hk
      · next hc => exact ⟨hk, fun l hl => by rw [hk, Option.map_some, hl] at hc; cases hc⟩
      · cases hk
      · next hc hc' => exact ⟨hk, fun l hl => hc' l (by rw [hk, Option.map_some, hl])⟩
    obtain ⟨g, hg, hgo, hgt⟩ := hs.names x f hf k hslot
    have hfrees : (s.entryFor k).any PoolEntry.frees = false := by
      rwa [← hgo, freedEntry_named hslot hg] at hfreed
    obtain ⟨q, hq⟩ : ∃ q, afterEntry (s.entryFor k) g = some q := by
      cases he : s.entryFor k with
      | none => exact ⟨g, rfl⟩
      | some e =>
        rw [he] at hfrees
        rw [← Option.isSome_iff_exists, ← Option.ne_none_iff_isSome, Ne, afterEntry_eq_none_iff]
        simpa using hfrees
    have hsettled : s.settledRegion k = some q :=
      State.settledRegion_eq_some.mpr ⟨g, hg, hq, by rw [hgo]; exact hdrains⟩
    have hcounts := h.counts k q hsettled
    obtain ⟨p, hp⟩ : ∃ p, (count k).record = some p := by
      cases hc : count k with
      | free => exact absurd hc hcounts.ne_free
      | kept p => exact ⟨p, rfl⟩
      | lapsed p => exact ⟨p, rfl⟩
      | retired l => exact absurd hc (hretired l)
    obtain ⟨hpo, hpt, -⟩ := hcounts.record hp
    refine ⟨s.presented p, by rw [h.table, hp]; rfl, ?_, ?_⟩
    · exact (hpo.trans (afterEntry_owner hq)).trans hgo
    · exact ((hpt.trans (afterEntry_tag hq)).trans hgt).trans (countEntry_tag count f).symm
  slotless x e he hk := by
    obtain ⟨-, f, hf, -, rfl⟩ := h.of_mem_map he
    rw [countEntry_eq] at hk ⊢
    split at hk
    · next hc => rw [hk] at hc; cases hc
    · next l hc =>
      refine ⟨rfl, ?_⟩
      rw [Option.map_eq_some_iff] at hc
      obtain ⟨k, hslot, hcount⟩ := hc
      obtain ⟨g, hg, rfl, -⟩ := hs.names x f hf k hslot
      cases hq : s.settledRegion k with
      | none => rw [h.free k hq] at hcount; cases hcount
      | some q =>
        have hcounts := h.counts k q hq
        rw [hcount] at hcounts
        cases hcounts with
        | retired howner =>
          rw [← (State.survives_of_settled hg hq).2.2]
          exact howner
    · exact hs.slotless x f hf hk
  quota n := by
    have hlen : (t.tagMaps.get (.client n)).length ≤ (s.tagMaps.get (.client n)).length := by
      rw [h.tagMaps]
      split
      · exact Nat.zero_le _
      · rw [List.length_map]; exact List.length_filter_le _ _
    have hquota : (t.sessions.get (.client n)).quota = (s.sessions.get (.client n)).quota := by
      rw [h.sessions, if_neg (by simp)]
      exact (settle_legal hs.sessions n).2
    rw [hquota]
    exact hlen.trans (hs.quota n)
  detached n hst := by
    rw [h.client_state] at hst
    rw [h.tagMaps]
    cases hd : s.drains (.client n) with
    | true => rfl
    | false =>
      by_cases hdet : (s.sessions.get (.client n)).state = .detached
      · rw [hs.detached n hdet]; rfl
      · obtain ha | ha := hs.stateAfter_of_not_drains hd hdet <;> rw [hst] at ha <;> cases ha
  mapped k r hr := by
    obtain ⟨q, p, hq, hcounts, hp, rfl⟩ := h.region hr
    obtain ⟨g, hg, howner, htag, hdrains, hfrees, -⟩ := h.region_owner hr hs
    obtain ⟨e, he, hetag, heslot⟩ := hs.mapped k g hg
    refine ⟨countEntry count e, ?_, (countEntry_tag count e).trans (hetag.trans htag.symm), ?_⟩
    · rw [howner, h.tagMaps, hdrains]
      refine List.mem_map_of_mem (List.mem_filter.mpr ⟨he, ?_⟩)
      rw [freedEntry_named heslot hg, ← State.entryFor_eq, hfrees]
      rfl
    · rw [countEntry_eq, heslot, Option.map_some]
      cases hc : count k with
      | free => exact absurd hc hcounts.ne_free
      | kept p => exact heslot
      | lapsed p => rfl
      | retired l => rw [hc] at hp; cases hp
  entries := by rw [h.pool]; exact .nil
  room := by rw [h.pool]; exact Nat.zero_le _
  admits e he := by rw [h.pool] at he; cases he
  staged k r hr := by
    obtain ⟨g, hg, -, -, -, -, hstate⟩ := h.region_owner hr hs
    refine State.stagedFits_iff.mpr ?_
    obtain hst | ⟨hst, hclient⟩ := hstate
    · rw [hst]; exact ⟨nofun, nofun, nofun⟩
    · rw [hst]; exact ⟨nofun, nofun, fun _ => hclient⟩
  owner k r hr := by
    obtain ⟨g, hg, howner, -, hdrains, -⟩ := h.region_owner hr hs
    have hdetached := (State.ownerFits_iff.mp (hs.owner k g hg)).1
    refine State.ownerFits_iff.mpr ?_
    rw [howner]
    cases ho : g.owner with
    | sup =>
      have hsup : (t.sessions.get .sup).state = .attached := congrArg SessionRecord.state hlegal.2.2
      rw [hsup]
      exact ⟨nofun, nofun⟩
    | client n =>
      rw [ho] at hdrains hdetached
      rw [h.client_state]
      obtain ha | ha := hs.stateAfter_of_not_drains hdrains hdetached <;> rw [ha] <;> exact ⟨nofun, nofun⟩
  marks k hk := by
    rw [h.shown, Bool.and_eq_true] at hk
    obtain ⟨hshown, hkept⟩ := hk
    have hsome := hs.marks k hshown
    rw [Option.isSome_iff_exists] at hsome
    obtain ⟨g, hg⟩ := hsome
    rw [hg] at hkept
    simpa using hkept

end CommitsTo

end Sys2Proof.Machine
end

section
/-! PROOFS. Creations, departures, swaps and resets keep the agreement, and so does every step. -/

namespace Sys2Proof.Machine

set_option Elab.async false

namespace State.TableFacts

variable {s : State} (hs : s.TableFacts)
include hs

/-! ### A region created (R17, R53, R65) -/

theorem createRegion {k : Slot} {x : Session} {tag : Word16} {kind : EntryKind} {fields : StagedFields}
    (hfree : s.table[k] = none) (howner : (s.sessions.get x).state = .attached)
    (hkind : kind = if x = .sup then .pin else .new) (htag : tag ≠ 0) (hnew : findTag (s.tagMaps.get x) tag = none)
    (hquota : x ≠ .sup → (s.tagMaps.get x).length < (s.sessions.get x).quota) (hroom : s.poolFull = false) :
    (s.createRegion k x tag kind fields).TableFacts := by
  have htable (j : Slot) : (s.createRegion k x tag kind fields).table[j] =
      if k = j then some (newRegion x tag) else s.table[j] := getElem_set_slot _ _ _ _
  have htags (y : Session) : (s.createRegion k x tag kind fields).tagMaps.get y =
      if y = x then insertTag { tag := tag, slot := some k, notices := NoticeSet.empty } (s.tagMaps.get x)
      else s.tagMaps.get y := PerSession.get_set _ _ _ _
  have hentry (j : Slot) : (s.createRegion k x tag kind fields).entryFor j =
      (s.entryFor j).or (if k = j then some ⟨k, kind, fields⟩ else none) := entryIn_append s.pool _ j
  have hpool : (s.createRegion k x tag kind fields).pool = s.pool ++ [⟨k, kind, fields⟩] := rfl
  have hsessions : (s.createRegion k x tag kind fields).sessions = s.sessions := rfl
  have hshown : (s.createRegion k x tag kind fields).shown = s.shown := rfl
  generalize s.createRegion k x tag kind fields = t at *
  have hne {j : Slot} {r : Region} (hr : s.table[j] = some r) : k ≠ j := by
    rintro rfl
    rw [hfree] at hr
    cases hr
  have hold {j : Slot} {r : Region} (hr : s.table[j] = some r) : t.table[j] = some r := by
    rw [htable, if_neg (hne hr), hr]
  have hmem {y : Session} {e : TagEntry} (he : e ∈ t.tagMaps.get y) :
      (y = x ∧ e = { tag := tag, slot := some k, notices := NoticeSet.empty }) ∨ e ∈ s.tagMaps.get y := by
    rw [htags] at he
    split at he
    · next h => subst h; exact (mem_insertTag.mp he).imp (fun h => ⟨rfl, h⟩) id
    · exact .inr he
  have hpast {j : Slot} (hj : ¬ k = j) : (t.entryFor j).isSome = (s.entryFor j).isSome := by
    rw [hentry, if_neg hj, Option.or_none]
  exact
    { sessions := hs.sessions.of_sessions_eq hsessions
      ordered := by
        intro y
        rw [htags]
        split
        · exact insertTag_ordered (hs.ordered x) htag (findTag_eq_none.mp hnew)
        · exact hs.ordered y
      names := by
        intro y e he j hj
        obtain ⟨rfl, rfl⟩ | he := hmem he
        · obtain rfl := Option.some.inj hj
          exact ⟨newRegion y tag, by rw [htable, if_pos rfl], rfl, rfl⟩
        · obtain ⟨r, hr, hro, hrt⟩ := hs.names y e he j hj
          exact ⟨r, hold hr, hro, hrt⟩
      slotless := by
        intro y e he hj
        obtain ⟨-, rfl⟩ | he := hmem he
        · cases hj
        · exact hs.slotless y e he hj
      quota := by
        intro n
        rw [htags, hsessions]
        split
        · next h => subst h; rw [length_insertTag]; exact hquota nofun
        · exact hs.quota n
      detached := by
        intro n hst
        rw [hsessions] at hst
        rw [htags, if_neg, hs.detached n hst]
        rintro rfl
        rw [howner] at hst
        cases hst
      mapped := by
        intro j r hr
        rw [htable] at hr
        split at hr
        · next h =>
          subst h
          obtain rfl := Option.some.inj hr
          refine ⟨{ tag := tag, slot := some k, notices := NoticeSet.empty }, ?_, rfl, rfl⟩
          show _ ∈ t.tagMaps.get x
          rw [htags, if_pos rfl]
          exact mem_insertTag.mpr (.inl rfl)
        · obtain ⟨e, he, hetag, heslot⟩ := hs.mapped j r hr
          refine ⟨e, ?_, hetag, heslot⟩
          rw [htags]
          split
          · next h => rw [h] at he; exact mem_insertTag.mpr (.inr he)
          · exact he
      entries := by
        rw [hpool]
        refine List.pairwise_append.mpr ⟨hs.entries, List.pairwise_singleton _ _, fun a ha b hb => ?_⟩
        rw [List.mem_singleton.mp hb]
        exact entryIn_eq_none.mp (hs.entryFor_of_free hfree) a ha
      room := by
        have := State.poolFull_eq_false.mp hroom
        rw [hpool, List.length_append, List.length_singleton]
        omega
      admits := by
        intro e he
        rw [hpool] at he
        obtain he | he := List.mem_append.mp he
        · obtain ⟨r, hr, hadmits⟩ := hs.admits e he
          exact ⟨r, hold hr, hadmits⟩
        · obtain rfl := List.mem_singleton.mp he
          refine ⟨newRegion x tag, by rw [htable, if_pos rfl], ?_⟩
          rw [hkind]
          by_cases hx : x = .sup <;> simp [Region.admits, Region.pinned, newRegion, hx]
      staged := by
        intro j r hr
        rw [htable] at hr
        split at hr
        · next h =>
          subst h
          obtain rfl := Option.some.inj hr
          refine State.stagedFits_iff.mpr ⟨fun _ => ?_, nofun, nofun⟩
          rw [hentry, if_pos rfl, hs.entryFor_of_free hfree]
          rfl
        · next h =>
          rw [State.stagedFits_congr (s := s) (j := j) rfl rfl (hpast h) (by rw [hsessions])]
          exact hs.staged j r hr
      owner := by
        intro j r hr
        rw [htable] at hr
        split at hr
        · obtain rfl := Option.some.inj hr
          exact State.ownerFits_of_attached (by rw [hsessions]; exact howner)
        · next h =>
          rw [State.ownerFits_congr (s := s) (j := j) rfl rfl (hpast h) (by rw [hsessions])]
          exact hs.owner j r hr
      marks := by
        intro j hj
        rw [hshown] at hj
        obtain ⟨r, hr⟩ := Option.isSome_iff_exists.mp (hs.marks j hj)
        rw [hold hr]
        rfl }

/-! ### Sessions that come and go (R31, R32) -/

/-- A client that is DETACHED owns no region (R26). -/
theorem owner_not_detached {k : Slot} {r : Region} (hr : s.table[k] = some r) :
    (s.sessions.get r.owner).state ≠ .detached := (State.ownerFits_iff.mp (hs.owner k r hr)).1

/-- The record of a client changed that owns nothing. -/
theorem changeUnowned {t : State} {n : Client} (hlegal : t.SessionsLegal) (htable : t.table = s.table)
    (htags : t.tagMaps = s.tagMaps) (hpool : t.pool = s.pool) (hshown : t.shown = s.shown)
    (hdetached : (s.sessions.get (.client n)).state = .detached)
    (hother : ∀ x, x ≠ .client n → t.sessions.get x = s.sessions.get x) : t.TableFacts := by
  have howner {k : Slot} {r : Region} (hr : s.table[k] = some r) : t.sessions.get r.owner = s.sessions.get r.owner :=
    hother _ (fun h => hs.owner_not_detached hr (by rw [h]; exact hdetached))
  have hentry (k : Slot) : t.entryFor k = s.entryFor k := by rw [State.entryFor_eq, hpool]; rfl
  exact
    { sessions := hlegal
      ordered := by rw [htags]; exact hs.ordered
      names := by rw [htags, htable]; exact hs.names
      slotless := by rw [htags]; exact hs.slotless
      quota := by
        intro m
        rw [htags]
        by_cases hm : m = n
        · rw [hm, hs.detached n hdetached]; exact Nat.zero_le _
        · rw [hother _ (by simpa using hm)]; exact hs.quota m
      detached := by
        intro m hst
        rw [htags]
        by_cases hm : m = n
        · rw [hm, hs.detached n hdetached]
        · rw [hother _ (by simpa using hm)] at hst
          exact hs.detached m hst
      mapped := by rw [htags, htable]; exact hs.mapped
      entries := by rw [hpool]; exact hs.entries
      room := by rw [hpool]; exact hs.room
      admits := by rw [hpool, htable]; exact hs.admits
      staged := by
        intro k r hr
        rw [htable] at hr
        rw [State.stagedFits_congr (s := s) (j := k) rfl rfl (by rw [hentry]) (by rw [howner hr])]
        exact hs.staged k r hr
      owner := by
        intro k r hr
        rw [htable] at hr
        rw [State.ownerFits_congr (s := s) (j := k) rfl rfl (by rw [hentry]) (by rw [howner hr])]
        exact hs.owner k r hr
      marks := by rw [htable, hshown]; exact hs.marks }

end State.TableFacts

/-! ### A departure, block by block (R32) -/

section
variable (s : State) (n : Client)

theorem State.depart_table (k : Slot) : (s.depart (.client n)).table[k] = departSlot (.client n) s.table[k] :=
  getElem_map_slot _ _ _

theorem State.depart_shown (k : Slot) :
    (s.depart (.client n)).shown[k] = (s.shown[k] && !s.ownedIn (.client n) .stagedNew k) := getElem_ofFn_slot _ _

theorem State.depart_tagMaps (x : Session) :
    (s.depart (.client n)).tagMaps.get x =
      if x = .client n then
        (s.tagMaps.get x).filter (fun e => !e.slot.any (s.ownedIn (.client n) .stagedNew))
      else s.tagMaps.get x := by
  refine (PerSession.get_set _ _ _ _).trans ?_
  split
  · next h => rw [h]
  · rfl

theorem State.depart_sessions (x : Session) :
    (s.depart (.client n)).sessions.get x =
      if x = .client n then { s.sessions.get x with pending := .drain, state := .draining } else s.sessions.get x := by
  refine (PerSession.get_set _ _ _ _).trans ?_
  split
  · next h => rw [h]
  · rfl

variable {s n}

theorem State.ownedIn_of_some {k : Slot} {r : Region} (hr : s.table[k] = some r) (x : Session) (st : RegionState) :
    s.ownedIn x st k = decide (r.owner = x ∧ r.state = st) := by
  rw [State.ownedIn, hr, Option.any_some, Bool.decide_and]

theorem State.ownedBy_of_some {k : Slot} {r : Region} (hr : s.table[k] = some r) (x : Session) :
    s.ownedBy x k = decide (r.owner = x) := by
  rw [State.ownedBy, hr, Option.any_some]

/-- What a departure leaves of a region: another owner's as it was, its own RETIRING. -/
theorem departSlot_eq_some {x : Session} {o : Option Region} {q : Region} (h : departSlot x o = some q) :
    ∃ r, o = some r ∧ q.owner = r.owner ∧ q.tag = r.tag ∧ (r.owner ≠ x → q = r)
      ∧ (r.owner = x → r.state ≠ .stagedNew ∧ q.state = .retiring) := by
  unfold departSlot at h
  rw [Option.bind_eq_some_iff] at h
  obtain ⟨r, rfl, h⟩ := h
  refine ⟨r, rfl, ?_⟩
  by_cases ho : r.owner = x
  · rw [if_pos ho] at h
    cases hst : r.state with
    | stagedNew => rw [hst] at h; cases h
    | live => rw [hst] at h; cases h; exact ⟨rfl, rfl, fun hne => absurd ho hne, fun _ => ⟨nofun, rfl⟩⟩
    | lapsed => rw [hst] at h; cases h; exact ⟨rfl, rfl, fun hne => absurd ho hne, fun _ => ⟨nofun, rfl⟩⟩
    | retiring => rw [hst] at h; cases h; exact ⟨rfl, rfl, fun hne => absurd ho hne, fun _ => ⟨nofun, hst⟩⟩
  · rw [if_neg ho] at h
    cases h
    exact ⟨rfl, rfl, fun _ => rfl, fun hx => absurd hx ho⟩

theorem departSlot_of_other {x : Session} {r : Region} (h : r.owner ≠ x) : departSlot x (some r) = some r := by
  simp [departSlot, h]

/-- A region of the client that is no STAGED_NEW one stays, RETIRING. -/
theorem departSlot_isSome {x : Session} {r : Region} (h : ¬ (r.owner = x ∧ r.state = .stagedNew)) :
    ∃ q, departSlot x (some r) = some q := by
  by_cases ho : r.owner = x
  · cases hst : r.state with
    | stagedNew => exact absurd ⟨ho, hst⟩ h
    | live => exact ⟨r.retire, by simp [departSlot, ho, hst]⟩
    | lapsed => exact ⟨r.retire, by simp [departSlot, ho, hst]⟩
    | retiring => exact ⟨r, by simp [departSlot, ho, hst]⟩
  · exact ⟨r, departSlot_of_other ho⟩

end

theorem State.TableFacts.depart {s : State} (hs : s.TableFacts) (n : Client) : (s.depart (.client n)).TableFacts := by
  have htable := s.depart_table n
  have hshown := s.depart_shown n
  have htags := s.depart_tagMaps n
  have hsessions := s.depart_sessions n
  have hpool : (s.depart (.client n)).pool = s.pool.filter (fun e => !s.ownedBy (.client n) e.slot) := rfl
  have hlegal := depart_sessionsLegal hs.sessions n
  have hentry {k : Slot} {r : Region} (hr : s.table[k] = some r) :
      (s.depart (.client n)).entryFor k = if r.owner = .client n then none else s.entryFor k := by
    show entryIn (s.pool.filter _) k = _
    split
    · next h =>
      refine entryIn_filter_of_drops (fun e _ he => ?_)
      rw [he, State.ownedBy_of_some hr, decide_eq_true h]
      rfl
    · next h =>
      refine entryIn_filter_of_keeps (fun e _ he => ?_)
      rw [he, State.ownedBy_of_some hr, decide_eq_false h]
      rfl
  generalize s.depart (.client n) = t at *
  have hsub (x : Session) : (t.tagMaps.get x).Sublist (s.tagMaps.get x) := by
    rw [htags]
    split
    · exact List.filter_sublist
    · exact .refl _
  have hregion {k : Slot} {q : Region} (hq : t.table[k] = some q) := departSlot_eq_some ((htable k).symm.trans hq)
  exact
    { sessions := hlegal
      ordered := fun x => (hs.ordered x).of_sublist ((hsub x).map _)
      names := by
        intro x e he k hk
        obtain ⟨r, hr, hro, hrt⟩ := hs.names x e ((hsub x).subset he) k hk
        have hkept : ¬ (r.owner = .client n ∧ r.state = .stagedNew) := by
          intro hgone
          rw [htags, if_pos (hro.symm.trans hgone.1)] at he
          obtain ⟨-, hfilter⟩ := List.mem_filter.mp he
          rw [hk, Option.any_some, State.ownedIn_of_some hr, decide_eq_true hgone] at hfilter
          cases hfilter
        obtain ⟨q, hq⟩ := departSlot_isSome hkept
        obtain ⟨r', hr', hqo, hqt, -⟩ := departSlot_eq_some hq
        obtain rfl := Option.some.inj hr'
        exact ⟨q, by rw [htable, hr, hq], hqo.trans hro, hqt.trans hrt⟩
      slotless := fun x e he => hs.slotless x e ((hsub x).subset he)
      quota := by
        intro m
        refine (hsub _).length_le.trans ?_
        rw [hsessions]
        split <;> exact hs.quota m
      detached := by
        intro m hst
        rw [hsessions] at hst
        split at hst
        · cases hst
        · exact List.sublist_nil.mp (hs.detached m hst ▸ hsub (.client m))
      mapped := by
        intro k q hq
        obtain ⟨r, hr, hqo, hqt, -, hown⟩ := hregion hq
        obtain ⟨e, he, htag, hslot⟩ := hs.mapped k r hr
        refine ⟨e, ?_, htag.trans hqt.symm, hslot⟩
        rw [hqo, htags]
        split
        · next h =>
          refine List.mem_filter.mpr ⟨he, ?_⟩
          rw [hslot, Option.any_some, State.ownedIn_of_some hr, decide_eq_false (fun hgone => (hown h).1 hgone.2)]
          rfl
        · exact he
      entries := by rw [hpool]; exact hs.entries.sublist List.filter_sublist
      room := by rw [hpool]; exact (List.length_filter_le _ _).trans hs.room
      admits := by
        intro e he
        rw [hpool] at he
        obtain ⟨he, hother⟩ := List.mem_filter.mp he
        obtain ⟨r, hr, hadmits⟩ := hs.admits e he
        rw [State.ownedBy_of_some hr, Bool.not_eq_true', decide_eq_false_iff_not] at hother
        exact ⟨r, by rw [htable, hr, departSlot_of_other hother], hadmits⟩
      staged := by
        intro k q hq
        obtain ⟨r, hr, hqo, -, hother, hown⟩ := hregion hq
        by_cases ho : r.owner = .client n
        · refine State.stagedFits_iff.mpr ⟨fun h => ?_, fun _ => .inr ⟨by rw [hqo, ho]; nofun, ?_⟩, fun h => ?_⟩
          · rw [(hown ho).2] at h; cases h
          · rw [hqo, hsessions, if_pos ho]
          · rw [(hown ho).2] at h; cases h
        · obtain rfl := hother ho
          rw [State.stagedFits_congr (s := s) (j := k) rfl rfl (by rw [hentry hr, if_neg ho]) (by rw [hsessions, if_neg ho])]
          exact hs.staged k q hr
      owner := by
        intro k q hq
        obtain ⟨r, hr, hqo, -, hother, hown⟩ := hregion hq
        by_cases ho : r.owner = .client n
        · refine State.ownerFits_iff.mpr ?_
          rw [hqo, hsessions, if_pos ho, hentry hr, if_pos ho]
          exact ⟨nofun, fun _ => ⟨(hown ho).2, rfl⟩⟩
        · obtain rfl := hother ho
          rw [State.ownerFits_congr (s := s) (j := k) rfl rfl (by rw [hentry hr, if_neg ho]) (by rw [hsessions, if_neg ho])]
          exact hs.owner k q hr
      marks := by
        intro k hk
        rw [hshown, Bool.and_eq_true] at hk
        obtain ⟨hk, hkept⟩ := hk
        obtain ⟨r, hr⟩ := Option.isSome_iff_exists.mp (hs.marks k hk)
        rw [State.ownedIn_of_some hr, Bool.not_eq_true', decide_eq_false_iff_not] at hkept
        obtain ⟨q, hq⟩ := departSlot_isSome hkept
        rw [htable, hr, hq]
        rfl }

/-! ### Fetches, swaps and emptied tables -/

theorem State.swapEntry_tag (s : State) (p : Plan) (e : TagEntry) : (s.swapEntry p e).tag = e.tag := by
  unfold State.swapEntry
  split
  · rfl
  · split <;> rfl

theorem State.swapEntry_slot (s : State) (p : Plan) (e : TagEntry) : (s.swapEntry p e).slot = e.slot := by
  unfold State.swapEntry
  split
  · rfl
  · split <;> rfl

theorem State.swapEntry_of_slotless (s : State) (p : Plan) {e : TagEntry} (h : e.slot = none) : s.swapEntry p e = e := by
  simp [State.swapEntry, h]

namespace State.TableFacts

variable {s : State} (hs : s.TableFacts)
include hs

theorem fetch (x : Session) (n : Nat) : (s.mapTags x (fetchMap n)).TableFacts := by
  have htags (y : Session) : (s.mapTags x (fetchMap n)).tagMaps.get y =
      if y = x then fetchMap n (s.tagMaps.get y) else s.tagMaps.get y := by
    refine (PerSession.get_set _ _ _ _).trans ?_
    split
    · next h => rw [h]
    · rfl
  have hsub (y : Session) :
      (((s.mapTags x (fetchMap n)).tagMaps.get y).map TagEntry.tag).Sublist ((s.tagMaps.get y).map TagEntry.tag) := by
    rw [htags]
    split
    · exact fetchMap_tags n _
    · exact .refl _
  refine SameShape.tableFacts ?_ hs
  exact
    { legal := hs.sessions
      state := fun _ => rfl
      quota := fun m => by
        have hlen := (hsub (.client m)).length_le
        rw [List.length_map, List.length_map] at hlen
        exact hlen.trans (hs.quota m)
      tags := hsub
      entry := by
        intro y e he
        rw [htags] at he
        split at he
        · obtain ⟨f, hf, htag, hslot, hsame⟩ := of_mem_fetchMap he
          exact ⟨f, hf, htag, hslot, fun hnone hret => hsame hnone ▸ hret⟩
        · exact ⟨e, he, rfl, rfl, fun _ h => h⟩
      kept := by
        intro y e he k hk
        rw [htags]
        split
        · exact mem_fetchMap_of_slot he hk
        · exact ⟨e, he, rfl, hk⟩
      table := fun _ => rfl
      pool := rfl
      shown := hs.marks }

theorem install (p : Plan) : (s.install p).TableFacts := by
  have htags (x : Session) : (s.install p).tagMaps.get x = (s.tagMaps.get x).map (s.swapEntry p) := by
    simp only [State.install, State.raiseIf_tagMaps, PerSession.get_make]
  have htable (k : Slot) : (s.install p).table[k] = s.table[k].map (fun r => { r with awaiting := false }) := by
    simp only [State.install, State.raiseIf_table, getElem_map_slot]
  refine SameShape.tableFacts ?_ hs
  exact
    { legal := hs.sessions.of_sessions_eq (s.install_sessions p)
      state := fun x => by rw [State.install_sessions]
      quota := fun n => by rw [htags, List.length_map, State.install_sessions]; exact hs.quota n
      tags := fun x => by
        rw [htags, List.map_map, show TagEntry.tag ∘ s.swapEntry p = TagEntry.tag from funext (s.swapEntry_tag p)]
      entry := by
        intro x e he
        rw [htags] at he
        obtain ⟨f, hf, rfl⟩ := List.mem_map.mp he
        refine ⟨f, hf, (s.swapEntry_tag p f).symm, (s.swapEntry_slot p f).symm, fun hnone hret => ?_⟩
        rw [State.swapEntry_slot] at hnone
        rw [State.swapEntry_of_slotless s p hnone]
        exact hret
      kept := by
        intro x e he k hk
        rw [htags]
        exact ⟨_, List.mem_map_of_mem he, s.swapEntry_tag p e, (s.swapEntry_slot p e).trans hk⟩
      table := fun k => by rw [htable, Option.map_map]; rfl
      pool := by simp only [State.install, State.raiseIf_pool]
      shown := fun k hk => by
        simp only [State.install, State.raiseIf_shown, getElem_ofFn_slot, Bool.and_eq_true] at hk
        exact hk.1 }

end State.TableFacts

/-- An emptied table, pool and maps agree with any legal sessions (R22). -/
theorem State.TableFacts.of_empty {s : State} (hlegal : s.SessionsLegal) (htable : ∀ k : Slot, s.table[k] = none)
    (htags : ∀ x, s.tagMaps.get x = []) (hpool : s.pool = []) (hshown : ∀ k : Slot, s.shown[k] = false) : s.TableFacts where
  sessions := hlegal
  ordered x := by rw [htags]; exact ⟨.nil, nofun⟩
  names x e he := by rw [htags] at he; cases he
  slotless x e he := by rw [htags] at he; cases he
  quota n := by rw [htags]; exact Nat.zero_le _
  detached n _ := htags _
  mapped k r hr := by rw [htable] at hr; cases hr
  entries := by rw [hpool]; exact .nil
  room := by rw [hpool]; exact Nat.zero_le _
  admits e he := by rw [hpool] at he; cases he
  staged k r hr := by rw [htable] at hr; cases hr
  owner k r hr := by rw [htable] at hr; cases hr
  marks k hk := by rw [hshown] at hk; cases hk

theorem State.reset_tableFacts : State.reset.TableFacts :=
  .of_empty State.reset_sessionsLegal (fun _ => Vector.getElem_replicate _) (fun _ => PerSession.get_make _ _) rfl
    (fun _ => Vector.getElem_replicate _)

theorem ScanEffect.tableFacts {s t : State} (h : ScanEffect s t) (hs : s.TableFacts) : t.TableFacts := by
  have hlegal := h.sessionsLegal hs.sessions
  cases h with
  | control c hpanel => exact hs.of_eq rfl rfl rfl rfl rfl
  | configured hst hvalid hconflict => exact hs.of_eq rfl rfl rfl rfl rfl
  | stopped =>
    refine SameShape.tableFacts (.of_records hs hlegal rfl rfl rfl (fun k hk => ?_) (fun _ => rfl) hs.quota) hs
    have hclear : s.stopped.shown[k] = false := Vector.getElem_replicate _
    rw [hclear] at hk
    cases hk
  | cleared =>
    rw [State.clearTable_eq] at hlegal ⊢
    exact .of_empty hlegal s.emptied_table s.emptied_tagMaps rfl s.emptied_shown
  | reset =>
    exact .of_empty hlegal (fun _ => Vector.getElem_replicate _) s.softReset_tagMaps rfl (fun _ => Vector.getElem_replicate _)

/-! ### Every effect and every step -/

theorem openValid_tag {b : FieldBlock} (h : openValid b = true) : b.tag ≠ 0 := by
  intro h0
  simp [openValid, h0] at h

theorem pinValid_tag {b : FieldBlock} (h : pinValid b = true) : b.tag ≠ 0 := by
  intro h0
  simp [pinValid, h0] at h

theorem limits_quota {s : State} (hs : s.TableFacts) {n : Client} (hst : (s.sessions.get (.client n)).state = .detached)
    (r : SessionRecord) (m : Client) :
    (s.tagMaps.get (.client m)).length ≤ ((s.sessions.set (.client n) r).get (.client m)).quota := by
  rw [PerSession.get_set]
  split
  · next h => rw [h, hs.detached n hst]; exact Nat.zero_le _
  · exact hs.quota m

/-- A change of one record that keeps its state and its quota. -/
theorem State.TableFacts.mapSession {s : State} (hs : s.TableFacts) {x : Session} {f : SessionRecord → SessionRecord}
    (hlegal : (s.mapSession x f).SessionsLegal) (hstate : (f (s.sessions.get x)).state = (s.sessions.get x).state)
    (hquota : ∀ n : Client, (s.tagMaps.get (.client n)).length ≤ ((s.mapSession x f).sessions.get (.client n)).quota) :
    (s.mapSession x f).TableFacts := by
  refine SameShape.tableFacts (.of_records hs hlegal rfl rfl rfl (fun _ h => h) (fun y => ?_) hquota) hs
  rw [State.mapSession, PerSession.get_set]
  split
  · next h => rw [h, hstate]
  · rfl

theorem quota_of_same {s : State} (hs : s.TableFacts) {x : Session} {f : SessionRecord → SessionRecord}
    (hquota : (f (s.sessions.get x)).quota = (s.sessions.get x).quota) (n : Client) :
    (s.tagMaps.get (.client n)).length ≤ ((s.mapSession x f).sessions.get (.client n)).quota := by
  rw [State.mapSession, PerSession.get_set]
  split
  · next h => rw [hquota, ← h]; exact hs.quota n
  · exact hs.quota n

theorem RuleEffect.tableFacts {p : Port} {s t : State} (h : RuleEffect p s t) (hs : s.TableFacts) : t.TableFacts := by
  induction h with
  | none s => exact hs
  | trans h h' ih ih' => exact ih' (ih hs)
  | alert s a hmask => exact hs.of_eq rfl rfl rfl rfl rfl
  | attach hp hst =>
    exact hs.changeUnowned (attach_sessionsLegal hs.sessions hst) rfl rfl rfl rfl hst
      (fun _ hx => PerSession.get_set_of_ne _ _ hx)
  | depart hp hst => exact hs.depart _
  | evictedMark hp hst => exact hs.mapSession (evictedMark_sessionsLegal hs.sessions hst) rfl (quota_of_same hs rfl)
  | limits hp hvalid hst hsum =>
    exact hs.mapSession (limits_sessionsLegal hs.sessions hvalid hsum) rfl (limits_quota hs hst _)
  | pending hp hf hst => exact hs.mapSession (pending_sessionsLegal hs.sessions hf hst) rfl (quota_of_same hs rfl)
  | opened hp hst hvalid htag hquota hrect hclaim hroom hfree =>
    exact hs.createRegion hfree hst rfl (openValid_tag hvalid) htag (fun _ => hquota) hroom
  | pinned hp hvalid htag hcount hrect hrank hroom hfree =>
    exact hs.createRegion hfree hs.sup_attached rfl (pinValid_tag hvalid) htag (fun h => absurd rfl h) hroom
  | amended hf hst hregion hlive hvalid hrect hclaim hroom =>
    obtain ⟨hr, howner, -⟩ := hs.region_of_tag hregion
    exact hs.stageAmend hr hlive (by rw [howner]; exact hs.attached_of_change hst) hroom
  | renewed hp he hk hr hlive => exact hs.putRegion hr rfl rfl rfl
  | revived hp he hk hr hlapsed hentry hroom => exact hs.revive hr hlapsed hentry hroom
  | freed hregion hst =>
    obtain ⟨hr, howner, -⟩ := hs.region_of_tag hregion
    rw [← howner]
    exact hs.freeStaged hr
  | removal hkind hsession hregion hst hroom =>
    obtain ⟨hr, howner, -⟩ := hs.region_of_tag hregion
    exact hs.stageRemoval hr (by rw [howner]; exact hkind) (by rw [howner]; exact hs.attached_of_change hsession) hroom
  | fetched s => exact hs.fetch p _
  | cursor c hst => exact hs.mapSession (cursor_sessionsLegal hs.sessions hst) rfl (quota_of_same hs rfl)
  | scan hp hc => exact (scanRule_effect hc _ _).tableFacts hs
  | forced hp hst => exact (State.forceParts_commitsTo hs.entries).tableFacts hs (forceParts_sessionsLegal hs.sessions)

theorem vblankCommit_tableFacts {s : State} (hs : s.TableFacts) (f : Word16) : (s.vblankCommit f).TableFacts := by
  have hparts := (State.commitParts_commitsTo hs.entries).tableFacts hs (commitParts_sessionsLegal hs.sessions)
  obtain ⟨htable, htags, hpool, hsessions, hshown, -⟩ := s.vblankCommit_parts f
  exact hparts.of_eq htable htags hpool hsessions hshown

theorem tableFacts_keptByEvents : KeptByEvents State.TableFacts where
  view := by
    intro s t hs h
    simp only [State.behindPorts, Prod.mk.injEq] at h
    obtain ⟨htable, htags, hpool, hsessions, -, -, -, hshown, -⟩ := h
    exact hs.of_eq htable htags hpool hsessions hshown
  rule := by
    intro p c s hp _ hs
    exact (requestRule_effect hp s).tableFacts hs
  handOver := by
    intro s f _ hs
    exact hs.of_eq rfl rfl rfl rfl rfl
  commit := by
    intro s f rest hdue hs
    have hq : ({ s with commitsDue := rest } : State).TableFacts := hs.of_eq rfl rfl rfl rfl rfl
    rw [State.takeCommit_of_due hdue]
    exact vblankCommit_tableFacts hq f
  swap := by
    intro s p _ _ hs
    exact hs.install p
  complete := by
    intro s j _ hs
    exact hs.of_eq rfl rfl rfl rfl rfl
  reset := by
    intro s
    exact State.reset_tableFacts.of_eq rfl rfl rfl rfl rfl

/-- Settles O59: fact by fact, over each effect of a request, each commit and each event. -/
theorem stepKeepsTableAgrees : Obligations.StepKeepsTableAgrees :=
  fun _ _ hs h => State.tableAgrees_iff.mpr (tableFacts_keptByEvents.step (State.tableAgrees_iff.mp hs) h)

end Sys2Proof.Machine
end

section
/-! PROOFS. Bands and spans alike are runs: half-open intervals with a value. A tiling by maximal runs is determined by the value at
each point (R109), and merging equal neighbours makes a tiling maximal (R112, R113). -/

namespace Sys2Proof.Machine

set_option Elab.async false

/-! ### Runs -/

/-- A half-open interval with a value: a span with its content, or a band with its spans. -/
structure Run (α : Type) where
  lo    : Nat
  hi    : Nat
  value : α

/-- A span as a run of columns. -/
def Span.run (sp : Span) : Run Content := ⟨sp.x0, sp.x1, sp.content⟩

/-- A band as a run of lines. -/
def Band.run (b : Band) : Run (List Span) := ⟨b.y0, b.y1, b.spans⟩

theorem Span.run_injective : Function.Injective Span.run := by
  rintro ⟨_, _, _⟩ ⟨_, _, _⟩ h
  cases h
  rfl

theorem Band.run_injective : Function.Injective Band.run := by
  rintro ⟨_, _, _⟩ ⟨_, _, _⟩ h
  cases h
  rfl

section
variable {α : Type}

/-- The runs tile the points from `a` to `b`. -/
def runsTile (a b : Nat) (l : List (Run α)) : Prop := tilesFrom a b (l.map (fun r => (r.lo, r.hi))) = true

/-- No two neighbours have equal values. -/
def runsMaximal (l : List (Run α)) : Prop := ∀ q ∈ l.zip l.tail, q.1.value ≠ q.2.value

/-- The value at a point, where a run holds it. -/
def valueAt (l : List (Run α)) (n : Nat) : Option α :=
  (l.find? (fun r => decide (r.lo ≤ n) && decide (n < r.hi))).map Run.value

@[simp] theorem runsTile_nil {a b : Nat} : runsTile a b ([] : List (Run α)) ↔ a = b := by simp [runsTile, tilesFrom]

@[simp] theorem runsTile_cons {a b : Nat} {r : Run α} {l : List (Run α)} :
    runsTile a b (r :: l) ↔ r.lo = a ∧ r.lo < r.hi ∧ runsTile r.hi b l := by
  simp [runsTile, tilesFrom, and_assoc]

@[simp] theorem runsMaximal_cons_cons {r q : Run α} {l : List (Run α)} :
    runsMaximal (r :: q :: l) ↔ r.value ≠ q.value ∧ runsMaximal (q :: l) := by
  simp [runsMaximal]

theorem runsTile.le {a b : Nat} {l : List (Run α)} (h : runsTile a b l) : a ≤ b := by
  induction l generalizing a with
  | nil => exact (runsTile_nil.mp h).le
  | cons r l ih =>
    obtain ⟨rfl, hlt, htail⟩ := runsTile_cons.mp h
    exact hlt.le.trans (ih htail)

/-- Each run of a tiling lies within it and is not empty. -/
theorem runsTile.mem {a b : Nat} {l : List (Run α)} (h : runsTile a b l) {r : Run α} (hr : r ∈ l) :
    a ≤ r.lo ∧ r.lo < r.hi ∧ r.hi ≤ b := by
  induction l generalizing a with
  | nil => cases hr
  | cons q l ih =>
    obtain ⟨rfl, hlt, htail⟩ := runsTile_cons.mp h
    obtain rfl | hr := List.mem_cons.mp hr
    · exact ⟨le_rfl, hlt, htail.le⟩
    · obtain ⟨h1, h2, h3⟩ := ih htail hr
      exact ⟨hlt.le.trans h1, h2, h3⟩

theorem valueAt_cons_of_holds {r : Run α} {n : Nat} (l : List (Run α)) (h : r.lo ≤ n) (h' : n < r.hi) :
    valueAt (r :: l) n = some r.value := by
  simp [valueAt, h, h']

theorem valueAt_cons_of_past {r : Run α} {n : Nat} (l : List (Run α)) (h : r.hi ≤ n) : valueAt (r :: l) n = valueAt l n := by
  have : ¬ n < r.hi := by omega
  simp [valueAt, this]

/-- The value at a point that a run of a tiling holds. -/
theorem runsTile.valueAt_of_mem {a b : Nat} {l : List (Run α)} (h : runsTile a b l) {r : Run α} (hr : r ∈ l) {n : Nat}
    (hlo : r.lo ≤ n) (hhi : n < r.hi) : valueAt l n = some r.value := by
  induction l generalizing a with
  | nil => cases hr
  | cons q l ih =>
    obtain ⟨rfl, hlt, htail⟩ := runsTile_cons.mp h
    obtain rfl | hr := List.mem_cons.mp hr
    · exact valueAt_cons_of_holds l hlo hhi
    · rw [valueAt_cons_of_past l ((htail.mem hr).1.trans hlo)]
      exact ih htail hr

/-- A run of a tiling holds each of its points. -/
theorem runsTile.exists_run {a b : Nat} {l : List (Run α)} (h : runsTile a b l) {n : Nat} (hlo : a ≤ n) (hhi : n < b) :
    ∃ r ∈ l, r.lo ≤ n ∧ n < r.hi := by
  induction l generalizing a with
  | nil => rw [runsTile_nil] at h; omega
  | cons q l ih =>
    obtain ⟨rfl, hlt, htail⟩ := runsTile_cons.mp h
    by_cases hn : n < q.hi
    · exact ⟨q, List.mem_cons_self, hlo, hn⟩
    · obtain ⟨r, hr, hrest⟩ := ih htail (by omega)
      exact ⟨r, List.mem_cons_of_mem _ hr, hrest⟩

/-- In a maximal tiling the first run ends no later than another one's that shows the same values. -/
theorem first_run_le {a b : Nat} {r q : Run α} {l m : List (Run α)} (hl : runsTile a b (r :: l)) (hm : runsTile a b (q :: m))
    (hmax : runsMaximal (r :: l)) (hvalue : r.value = q.value)
    (h : ∀ n, a ≤ n → n < b → valueAt (r :: l) n = valueAt (q :: m) n) : q.hi ≤ r.hi := by
  obtain ⟨rfl, hr, htail⟩ := runsTile_cons.mp hl
  obtain ⟨hlo, hq, htailq⟩ := runsTile_cons.mp hm
  by_contra hlt
  have hb : q.hi ≤ b := htailq.le
  cases l with
  | nil => rw [runsTile_nil] at htail; omega
  | cons r' l =>
    obtain ⟨hlo', hr', -⟩ := runsTile_cons.mp htail
    have hat := h r.hi hr.le (by omega)
    rw [valueAt_cons_of_past _ le_rfl, valueAt_cons_of_holds _ hlo'.le (hlo' ▸ hr'),
      valueAt_cons_of_holds _ (by omega) (by omega), ← hvalue] at hat
    exact (runsMaximal_cons_cons.mp hmax).1 (Option.some.inj hat).symm

/-- Two maximal tilings that show the same value at each point are one (R109). -/
theorem eq_of_valueAt_eq {a b : Nat} {l m : List (Run α)} (hl : runsTile a b l) (hm : runsTile a b m)
    (hmax : runsMaximal l) (hmax' : runsMaximal m) (h : ∀ n, a ≤ n → n < b → valueAt l n = valueAt m n) : l = m := by
  induction l generalizing a m with
  | nil =>
    rw [runsTile_nil] at hl
    cases m with
    | nil => rfl
    | cons q m =>
      obtain ⟨rfl, hq, htail⟩ := runsTile_cons.mp hm
      have := htail.le
      omega
  | cons r l ih =>
    have hl' := hl
    obtain ⟨rfl, hr, htail⟩ := runsTile_cons.mp hl
    cases m with
    | nil =>
      have := htail.le
      rw [runsTile_nil] at hm
      omega
    | cons q m =>
      obtain ⟨hlo, hq, htailq⟩ := runsTile_cons.mp hm
      have hvalue : r.value = q.value := by
        have hat := h r.lo le_rfl (hr.trans_le htail.le)
        rw [valueAt_cons_of_holds _ le_rfl hr, valueAt_cons_of_holds _ hlo.le (hlo ▸ hq)] at hat
        exact Option.some.inj hat
      have hhi : r.hi = q.hi :=
        le_antisymm (first_run_le hm hl' hmax' hvalue.symm (fun n h1 h2 => (h n h1 h2).symm))
          (first_run_le hl' hm hmax hvalue h)
      have hrq : r = q := by
        cases r; cases q
        simp_all
      subst hrq
      have htails : l = m := by
        refine ih htail htailq ?_ ?_ (fun n hn hb => ?_)
        · cases l with
          | nil => exact nofun
          | cons _ _ => exact (runsMaximal_cons_cons.mp hmax).2
        · cases m with
          | nil => exact nofun
          | cons _ _ => exact (runsMaximal_cons_cons.mp hmax').2
        · have hat := h n (hr.le.trans hn) hb
          rwa [valueAt_cons_of_past _ hn, valueAt_cons_of_past _ hn] at hat
      rw [htails]

/-! ### Merging (R112, R113) -/

variable [DecidableEq α]

/-- Neighbours of equal value become one run. -/
def mergeRuns : List (Run α) → List (Run α)
  | [] => []
  | r :: l =>
    match mergeRuns l with
    | [] => [r]
    | q :: m => if r.value = q.value then { r with hi := q.hi } :: m else r :: q :: m

theorem mergeRuns_tile {a b : Nat} {l : List (Run α)} (h : runsTile a b l) : runsTile a b (mergeRuns l) := by
  induction l generalizing a with
  | nil => exact h
  | cons r l ih =>
    obtain ⟨rfl, hr, htail⟩ := runsTile_cons.mp h
    have ih := ih htail
    rw [mergeRuns]
    cases hm : mergeRuns l with
    | nil => rw [hm] at ih; exact runsTile_cons.mpr ⟨rfl, hr, ih⟩
    | cons q m =>
      rw [hm] at ih
      obtain ⟨hlo, hq, htailq⟩ := runsTile_cons.mp ih
      dsimp only
      split
      · exact runsTile_cons.mpr ⟨rfl, by dsimp only; omega, htailq⟩
      · exact runsTile_cons.mpr ⟨rfl, hr, ih⟩

theorem mergeRuns_valueAt {a b : Nat} {l : List (Run α)} (h : runsTile a b l) (n : Nat) :
    valueAt (mergeRuns l) n = valueAt l n := by
  induction l generalizing a with
  | nil => rfl
  | cons r l ih =>
    obtain ⟨rfl, hr, htail⟩ := runsTile_cons.mp h
    have ih := ih htail
    have htile := mergeRuns_tile htail
    rw [mergeRuns]
    cases hm : mergeRuns l with
    | nil =>
      rw [hm] at ih
      dsimp only
      simp only [valueAt, List.find?_cons] at ih ⊢
      split
      · rfl
      · exact ih
    | cons q m =>
      rw [hm] at ih htile
      obtain ⟨hlo, hq, -⟩ := runsTile_cons.mp htile
      dsimp only
      split
      · next hvalue =>
        have hwide (h0 : r.lo ≤ n) (h1 : n < q.hi) : valueAt ({ r with hi := q.hi } :: m) n = some r.value :=
          valueAt_cons_of_holds (r := { r with hi := q.hi }) m h0 h1
        by_cases h1 : n < r.hi
        · by_cases h0 : r.lo ≤ n
          · rw [valueAt_cons_of_holds l h0 h1, hwide h0 (by omega)]
          · have hr0 : ¬ r.lo ≤ n := h0
            have hq0 : ¬ q.lo ≤ n := by omega
            have htail : valueAt m n = valueAt l n := by rw [← ih]; simp [valueAt, hq0]
            simpa [valueAt, hr0] using htail
        · rw [valueAt_cons_of_past l (by omega), ← ih]
          by_cases h2 : n < q.hi
          · rw [hwide (by omega) h2, valueAt_cons_of_holds m (by omega) h2, hvalue]
          · rw [valueAt_cons_of_past (r := { r with hi := q.hi }) m (show q.hi ≤ n by omega),
              valueAt_cons_of_past m (by omega)]
      · simp only [valueAt, List.find?_cons (a := r)] at ih ⊢
        split
        · rfl
        · exact ih

theorem mergeRuns_maximal (l : List (Run α)) : runsMaximal (mergeRuns l) := by
  induction l with
  | nil => exact nofun
  | cons r l ih =>
    rw [mergeRuns]
    cases hm : mergeRuns l with
    | nil => exact nofun
    | cons q m =>
      rw [hm] at ih
      dsimp only
      split
      · next hvalue =>
        cases m with
        | nil => exact nofun
        | cons p m =>
          rw [runsMaximal_cons_cons] at ih ⊢
          exact ⟨hvalue ▸ ih.1, ih.2⟩
      · next hvalue => exact runsMaximal_cons_cons.mpr ⟨hvalue, ih⟩

theorem mergeRuns_length_le (l : List (Run α)) : (mergeRuns l).length ≤ l.length := by
  induction l with
  | nil => exact le_rfl
  | cons r l ih =>
    rw [mergeRuns]
    cases hm : mergeRuns l with
    | nil => simp
    | cons q m =>
      rw [hm] at ih
      dsimp only
      split <;> simp at ih ⊢ <;> omega

/-- The values of merged runs are values of the runs. -/
theorem mergeRuns_value {l : List (Run α)} {r : Run α} (hr : r ∈ mergeRuns l) : ∃ q ∈ l, q.value = r.value := by
  induction l generalizing r with
  | nil => cases hr
  | cons p l ih =>
    have hhead {x : Run α} (h : x.value = p.value) : ∃ q ∈ p :: l, q.value = x.value := ⟨p, List.mem_cons_self, h.symm⟩
    have htail {x : Run α} (h : x ∈ mergeRuns l) : ∃ q ∈ p :: l, q.value = x.value := by
      obtain ⟨q, hq, hvalue⟩ := ih h
      exact ⟨q, List.mem_cons_of_mem _ hq, hvalue⟩
    rw [mergeRuns] at hr
    cases hm : mergeRuns l with
    | nil => rw [hm] at hr; rw [List.mem_singleton.mp hr]; exact hhead rfl
    | cons q m =>
      rw [hm] at hr htail
      dsimp only at hr
      split at hr
      · obtain rfl | hr := List.mem_cons.mp hr
        · exact hhead rfl
        · exact htail (List.mem_cons_of_mem _ hr)
      · obtain rfl | hr := List.mem_cons.mp hr
        · exact hhead rfl
        · exact htail hr

end

theorem mergeSpans_runs (l : List Span) : (mergeSpans l).map Span.run = mergeRuns (l.map Span.run) := by
  induction l with
  | nil => rfl
  | cons a l ih =>
    rw [mergeSpans, List.map_cons, mergeRuns, ← ih]
    cases mergeSpans l with
    | nil => rfl
    | cons b m =>
      show List.map Span.run (if a.content = b.content then _ else _) = if a.content = b.content then _ else _
      split <;> rfl

theorem mergeBands_runs (l : List Band) : (mergeBands l).map Band.run = mergeRuns (l.map Band.run) := by
  induction l with
  | nil => rfl
  | cons a l ih =>
    rw [mergeBands, List.map_cons, mergeRuns, ← ih]
    cases mergeBands l with
    | nil => rfl
    | cons b m =>
      show List.map Band.run (if a.spans = b.spans then _ else _) = if a.spans = b.spans then _ else _
      split <;> rfl

/-! ### Plans as runs -/

theorem Plan.tiles_iff {p : Plan} :
    p.Tiles ↔ runsTile 0 p.height (p.bands.map Band.run) ∧ ∀ b ∈ p.bands, runsTile 0 p.width (b.spans.map Span.run) := by
  simp only [Plan.Tiles, runsTile, List.map_map]
  exact Iff.rfl

theorem runsMaximal_map {α β : Type} {f : β → Run α} {l : List β} :
    runsMaximal (l.map f) ↔ ∀ q ∈ l.zip l.tail, (f q.1).value ≠ (f q.2).value := by
  rw [runsMaximal, ← List.map_tail, List.zip_map, List.forall_mem_map]
  exact Iff.rfl

theorem Plan.maximal_iff {p : Plan} :
    p.Maximal ↔ (∀ b ∈ p.bands, runsMaximal (b.spans.map Span.run)) ∧ runsMaximal (p.bands.map Band.run) := by
  simp only [runsMaximal_map]
  exact Iff.rfl

theorem Plan.bandAt_spans (p : Plan) (y : Nat) : (p.bandAt y).map Band.spans = valueAt (p.bands.map Band.run) y := by
  rw [valueAt, List.find?_map, Option.map_map]
  rfl

theorem Band.spanAt_content (b : Band) (x : Nat) : (b.spanAt x).map Span.content = valueAt (b.spans.map Span.run) x := by
  rw [valueAt, List.find?_map, Option.map_map]
  rfl

/-- The content of a pixel, by the spans at its line and the content at its column. -/
theorem Plan.contentAt_eq (p : Plan) (x y : Nat) :
    p.contentAt x y = (valueAt (p.bands.map Band.run) y).bind (fun spans => valueAt (spans.map Span.run) x) := by
  rw [← Plan.bandAt_spans, Option.bind_map, Plan.contentAt]
  exact congrArg _ (funext fun b => Band.spanAt_content b x)

/-- Settles O29: the spans of each line are determined by the line's pixels, and the bands by the spans of each line. -/
theorem planIsDeterminedByItsPixels : Obligations.PlanIsDeterminedByItsPixels := by
  intro p q hw hh hp hq hmp hmq hpixels
  obtain ⟨hpb, hps⟩ := Plan.tiles_iff.mp hp
  obtain ⟨hqb, hqs⟩ := Plan.tiles_iff.mp hq
  obtain ⟨hpsm, hpbm⟩ := Plan.maximal_iff.mp hmp
  obtain ⟨hqsm, hqbm⟩ := Plan.maximal_iff.mp hmq
  refine Band.run_injective.list_map (eq_of_valueAt_eq hpb (hh ▸ hqb) hpbm hqbm fun y _ hy => ?_)
  obtain ⟨_, hr, hlo, hhi⟩ := hpb.exists_run (Nat.zero_le y) hy
  obtain ⟨_, hr', hlo', hhi'⟩ := hqb.exists_run (Nat.zero_le y) (hh ▸ hy)
  rw [hpb.valueAt_of_mem hr hlo hhi, hqb.valueAt_of_mem hr' hlo' hhi']
  have hline (x : Nat) (hx : x < p.width) := hpixels x y hx hy
  simp only [Plan.contentAt_eq, hpb.valueAt_of_mem hr hlo hhi, hqb.valueAt_of_mem hr' hlo' hhi', Option.bind_some] at hline
  obtain ⟨b, hb, rfl⟩ := List.mem_map.mp hr
  obtain ⟨b', hb', rfl⟩ := List.mem_map.mp hr'
  exact congrArg some (Span.run_injective.list_map
    (eq_of_valueAt_eq (hps b hb) (hw ▸ hqs b' hb') (hpsm b hb) (hqsm b' hb') fun x _ hx => hline x hx))

end Sys2Proof.Machine
end

section
/-! PROOFS. The plan a resolve builds (R106, R108 to R115): the cuts tile the panel, between two cuts no content changes, and so the
merged bands show each pixel its topmost candidate. -/

namespace Sys2Proof.Machine

set_option Elab.async false

/-! ### Cuts (R110, R111) -/

theorem mem_insertCut {a c : Nat} {l : List Nat} : c ∈ insertCut a l ↔ c = a ∨ c ∈ l := by
  induction l with
  | nil => simp [insertCut]
  | cons b l ih =>
    rw [insertCut]
    split
    · simp
    · split
      · next h => subst h; simp
      · simp only [List.mem_cons, ih]; tauto

theorem insertCut_ascending {a : Nat} {l : List Nat} (h : l.Pairwise (· < ·)) : (insertCut a l).Pairwise (· < ·) := by
  induction l with
  | nil => exact List.pairwise_singleton _ _
  | cons b l ih =>
    obtain ⟨hb, hl⟩ := List.pairwise_cons.mp h
    rw [insertCut]
    split
    · next hab =>
      exact List.pairwise_cons.mpr ⟨fun c hc => (List.mem_cons.mp hc).elim (fun h => h ▸ hab) (fun hc => hab.trans (hb c hc)), h⟩
    · split
      · exact h
      · refine List.pairwise_cons.mpr ⟨fun c hc => (mem_insertCut.mp hc).elim (fun h => by omega) (hb c), ih hl⟩

theorem insertCut_length_le (a : Nat) (l : List Nat) : (insertCut a l).length ≤ l.length + 1 := by
  induction l with
  | nil => exact le_rfl
  | cons b l ih =>
    rw [insertCut]
    split
    · exact le_rfl
    · split
      · exact Nat.le_succ _
      · exact Nat.succ_le_succ ih

theorem mem_sortCuts {c : Nat} {l : List Nat} : c ∈ sortCuts l ↔ c ∈ l := by
  induction l with
  | nil => exact Iff.rfl
  | cons b l ih => exact mem_insertCut.trans ((or_congr_right ih).trans List.mem_cons.symm)

theorem sortCuts_ascending (l : List Nat) : (sortCuts l).Pairwise (· < ·) := by
  induction l with
  | nil => exact .nil
  | cons b l ih => exact insertCut_ascending ih

theorem sortCuts_length_le (l : List Nat) : (sortCuts l).length ≤ l.length := by
  induction l with
  | nil => exact le_rfl
  | cons b l ih => exact (insertCut_length_le b _).trans (Nat.succ_le_succ ih)

theorem intervals_cons_cons (a b : Nat) (l : List Nat) : intervals (a :: b :: l) = (a, b) :: intervals (b :: l) := rfl

theorem intervals_length_le (l : List Nat) : (intervals l).length ≤ l.length - 1 := by
  simp [intervals]

/-- No cut lies inside an elementary interval. -/
theorem outside_of_mem_intervals {l : List Nat} (h : l.Pairwise (· < ·)) {p : Nat × Nat} (hp : p ∈ intervals l) {c : Nat}
    (hc : c ∈ l) : c ≤ p.1 ∨ p.2 ≤ c := by
  induction l with
  | nil => cases hc
  | cons a l ih =>
    obtain ⟨ha, hl⟩ := List.pairwise_cons.mp h
    cases l with
    | nil => cases hp
    | cons b l =>
      have hb := List.pairwise_cons.mp hl
      rw [intervals_cons_cons] at hp
      obtain rfl | hlater := List.mem_cons.mp hp
      · obtain rfl | hc := List.mem_cons.mp hc
        · exact .inl le_rfl
        · obtain rfl | hc := List.mem_cons.mp hc
          · exact .inr le_rfl
          · exact .inr (hb.1 c hc).le
      · obtain rfl | hc := List.mem_cons.mp hc
        · have hstart : p.1 ∈ b :: l := (List.of_mem_zip (show (p.1, p.2) ∈ (b :: l).zip l from hlater)).1
          exact .inl (ha p.1 hstart).le
        · exact ih hl hlater hc

section
variable {α : Type}

/-- The runs between cuts, each with a value taken at its start. -/
def cutRuns (cuts : List Nat) (g : Nat → α) : List (Run α) := (intervals cuts).map (fun p => ⟨p.1, p.2, g p.1⟩)

theorem cutRuns_tile {h : Nat} {l : List Nat} (g : Nat → α) (hl : l.Pairwise (· < ·)) {a : Nat} (ha : l.head? = some a)
    (hmem : h ∈ l) (hle : ∀ c ∈ l, c ≤ h) : runsTile a h (cutRuns l g) := by
  induction l generalizing a with
  | nil => cases ha
  | cons b l ih =>
    obtain rfl : b = a := Option.some.inj ha
    obtain ⟨hb, hl'⟩ := List.pairwise_cons.mp hl
    cases l with
    | nil =>
      obtain rfl := List.mem_singleton.mp hmem
      exact runsTile_nil.mpr rfl
    | cons c l =>
      refine runsTile_cons.mpr ⟨rfl, hb c List.mem_cons_self, ih hl' rfl ?_ (fun d hd => hle d (List.mem_cons_of_mem _ hd))⟩
      obtain rfl | hmem := List.mem_cons.mp hmem
      · have h1 := hb c List.mem_cons_self
        have h2 := hle c (List.mem_cons_of_mem _ List.mem_cons_self)
        omega
      · exact hmem

/-- The cuts of a side of the panel: 0, the side's length and further values up to it. -/
theorem cutRuns_sort_tile {h : Nat} {l : List Nat} (g : Nat → α) (hle : ∀ c ∈ l, c ≤ h) :
    runsTile 0 h (cutRuns (sortCuts (0 :: h :: l)) g) := by
  have hasc := sortCuts_ascending (0 :: h :: l)
  have h0 : 0 ∈ sortCuts (0 :: h :: l) := mem_sortCuts.mpr List.mem_cons_self
  refine cutRuns_tile g hasc ?_ (mem_sortCuts.mpr (List.mem_cons_of_mem _ List.mem_cons_self)) (fun c hc => ?_)
  · cases hcuts : sortCuts (0 :: h :: l) with
    | nil => rw [hcuts] at h0; cases h0
    | cons a m =>
      rw [hcuts] at h0 hasc
      obtain rfl | h0 := List.mem_cons.mp h0
      · rfl
      · exact absurd ((List.pairwise_cons.mp hasc).1 0 h0) (Nat.not_lt_zero _)
  · obtain rfl | hc := List.mem_cons.mp (mem_sortCuts.mp hc)
    · exact Nat.zero_le _
    · obtain rfl | hc := List.mem_cons.mp hc
      · exact le_rfl
      · exact hle c hc

/-- Where the value does not change between cuts, the runs give each point its own value. -/
theorem cutRuns_valueAt {a h : Nat} {cuts : List Nat} {g : Nat → α} (htile : runsTile a h (cutRuns cuts g))
    (hg : ∀ p ∈ intervals cuts, ∀ n, p.1 ≤ n → n < p.2 → g p.1 = g n) {n : Nat} (hlo : a ≤ n) (hhi : n < h) :
    valueAt (cutRuns cuts g) n = some (g n) := by
  obtain ⟨r, hr, h1, h2⟩ := htile.exists_run hlo hhi
  rw [htile.valueAt_of_mem hr h1 h2]
  obtain ⟨p, hp, rfl⟩ := List.mem_map.mp hr
  exact congrArg some (hg p hp n h1 h2)

theorem cutRuns_length_le (l : List Nat) (g : Nat → α) : (cutRuns (sortCuts l) g).length ≤ l.length - 1 := by
  rw [cutRuns, List.length_map]
  exact (intervals_length_le _).trans (Nat.sub_le_sub_right (sortCuts_length_le l) 1)

end

/-! ### The topmost candidate (R106) -/

theorem foldl_higher {l : List Candidate} {b d : Candidate} (h : l.foldl higher (some b) = some d) :
    d ∈ b :: l ∧ ∀ e ∈ b :: l, e.level ≤ d.level := by
  induction l generalizing b with
  | nil =>
    obtain rfl := Option.some.inj h
    exact ⟨List.mem_cons_self, fun e he => by rw [List.mem_singleton.mp he]⟩
  | cons c l ih =>
    rw [List.foldl_cons, higher] at h
    split at h
    · next hlt =>
      obtain ⟨hd, hmax⟩ := ih h
      refine ⟨List.mem_cons_of_mem _ hd, fun e he => ?_⟩
      obtain rfl | he := List.mem_cons.mp he
      · exact hlt.le.trans (hmax c List.mem_cons_self)
      · exact hmax e he
    · next hle =>
      obtain ⟨hd, hmax⟩ := ih h
      refine ⟨?_, fun e he => ?_⟩
      · obtain rfl | hd := List.mem_cons.mp hd
        · exact List.mem_cons_self
        · exact List.mem_cons_of_mem _ (List.mem_cons_of_mem _ hd)
      · obtain rfl | he := List.mem_cons.mp he
        · exact hmax e List.mem_cons_self
        · obtain rfl | he := List.mem_cons.mp he
          · exact (not_lt.mp hle).trans (hmax b List.mem_cons_self)
          · exact hmax e (List.mem_cons_of_mem _ he)

theorem foldl_higher_isSome (l : List Candidate) (b : Candidate) : ∃ d, l.foldl higher (some b) = some d := by
  induction l generalizing b with
  | nil => exact ⟨b, rfl⟩
  | cons c l ih =>
    rw [List.foldl_cons, higher]
    split
    · exact ih c
    · exact ih b

theorem Candidate.covers_iff {c : Candidate} {x y : Nat} : c.covers x y = true ↔ c.Holds x y := by
  simp [Candidate.covers, and_assoc]

/-- The ownership map gives each pixel what it shows. -/
theorem contentAt_shows (cs : List Candidate) (bg : Colour) (x y : Nat) : ShowsAt cs bg x y (contentAt cs bg x y) := by
  have hmem {c : Candidate} : c ∈ cs.filter (fun c => c.covers x y) ↔ c ∈ cs ∧ c.Holds x y := by
    rw [List.mem_filter, Candidate.covers_iff]
  unfold contentAt topmost
  generalize cs.filter (fun c => c.covers x y) = l at hmem
  cases l with
  | nil => exact .inr ⟨fun d hd hh => List.not_mem_nil (hmem.mpr ⟨hd, hh⟩), rfl⟩
  | cons b l =>
    obtain ⟨d, hd⟩ := foldl_higher_isSome l b
    obtain ⟨hin, hmax⟩ := foldl_higher hd
    obtain ⟨hdcs, hdh⟩ := hmem.mp hin
    refine .inl ⟨d, hdcs, hdh, fun e he hh => hmax e (hmem.mpr ⟨he, hh⟩), ?_⟩
    rw [List.foldl_cons, higher, hd]

/-- Where candidates of one level that meet give one content, a pixel shows one content. -/
theorem ShowsAt.unique {cs : List Candidate} {bg : Colour} {x y : Nat} {a b : Content} (ha : ShowsAt cs bg x y a)
    (hb : ShowsAt cs bg x y b)
    (h : ∀ c ∈ cs, ∀ d ∈ cs, ∀ x y : Nat, c.Holds x y → d.Holds x y → c.level = d.level → c.content = d.content) : a = b := by
  obtain ⟨d, hd, hdh, hdmax, rfl⟩ | ⟨hnone, rfl⟩ := ha
  · obtain ⟨e, he, heh, hemax, rfl⟩ | ⟨hnone, -⟩ := hb
    · exact h d hd e he x y hdh heh (le_antisymm (hemax d hd hdh) (hdmax e he heh))
    · exact absurd hdh (hnone d hd)
  · obtain ⟨e, he, heh, -⟩ | ⟨-, rfl⟩ := hb
    · exact absurd heh (hnone e he)
    · rfl

/-! ### Between cuts nothing changes -/

/-- The content of a pixel depends on which candidates cover it. -/
theorem contentAt_congr {cs : List Candidate} {bg : Colour} {x y x' y' : Nat}
    (h : ∀ c ∈ cs, c.covers x y = c.covers x' y') : contentAt cs bg x y = contentAt cs bg x' y' := by
  unfold contentAt topmost
  rw [List.filter_congr h]

section
variable {cs : List Candidate} {bg : Colour} {w h : Nat}

theorem coversLine_eq {p : Nat × Nat} (hp : p ∈ intervals (yCuts cs h)) {y : Nat} (hlo : p.1 ≤ y) (hhi : y < p.2)
    {c : Candidate} (hc : c ∈ cs) :
    (decide (c.rect.y0 ≤ p.1) && decide (p.1 < c.rect.y1)) = (decide (c.rect.y0 ≤ y) && decide (y < c.rect.y1)) := by
  have hcut {v : Nat} (hv : v ∈ [c.rect.y0, c.rect.y1]) : v ≤ p.1 ∨ p.2 ≤ v :=
    outside_of_mem_intervals (sortCuts_ascending _) hp (mem_sortCuts.mpr
      (List.mem_cons_of_mem _ (List.mem_cons_of_mem _ (List.mem_flatMap.mpr ⟨c, hc, hv⟩))))
  have h0 := hcut (v := c.rect.y0) List.mem_cons_self
  have h1 := hcut (v := c.rect.y1) (List.mem_cons_of_mem _ List.mem_cons_self)
  rw [← Bool.decide_and, ← Bool.decide_and, decide_eq_decide]
  omega

/-- Every line of an elementary band has the spans of its first line (R110). -/
theorem elementarySpans_eq {p : Nat × Nat} (hp : p ∈ intervals (yCuts cs h)) {y : Nat} (hlo : p.1 ≤ y) (hhi : y < p.2) :
    elementarySpans cs bg w p.1 = elementarySpans cs bg w y := by
  have hline : coveringLine cs p.1 = coveringLine cs y := List.filter_congr fun c hc => coversLine_eq hp hlo hhi hc
  have hcontent (x : Nat) : contentAt cs bg x p.1 = contentAt cs bg x y := by
    refine contentAt_congr fun c hc => ?_
    have := coversLine_eq hp hlo hhi hc
    simp only [Candidate.covers, Bool.and_assoc]
    rw [this]
  simp only [elementarySpans, xCuts, hline, hcontent]

theorem elementarySpans_runs (y : Nat) :
    (elementarySpans cs bg w y).map Span.run = cutRuns (xCuts cs w y) (fun x => contentAt cs bg x y) := by
  rw [elementarySpans, List.map_map]
  rfl

/-- Every pixel of an elementary span shows what its first pixel does (R111). -/
theorem contentAt_of_interval {y : Nat} {p : Nat × Nat} (hp : p ∈ intervals (xCuts cs w y)) {x : Nat} (hlo : p.1 ≤ x)
    (hhi : x < p.2) : contentAt cs bg p.1 y = contentAt cs bg x y := by
  refine contentAt_congr fun c hc => ?_
  by_cases hline : c.rect.y0 ≤ y ∧ y < c.rect.y1
  · have hcovering : c ∈ coveringLine cs y := List.mem_filter.mpr ⟨hc, by simpa using hline⟩
    have hcut {v : Nat} (hv : v ∈ [c.rect.x0, c.rect.x1]) : v ≤ p.1 ∨ p.2 ≤ v :=
      outside_of_mem_intervals (sortCuts_ascending _) hp (mem_sortCuts.mpr
        (List.mem_cons_of_mem _ (List.mem_cons_of_mem _ (List.mem_flatMap.mpr ⟨c, hcovering, hv⟩))))
    have h0 := hcut (v := c.rect.x0) List.mem_cons_self
    have h1 := hcut (v := c.rect.x1) (List.mem_cons_of_mem _ List.mem_cons_self)
    rw [Bool.eq_iff_iff, Candidate.covers_iff, Candidate.covers_iff]
    simp only [Candidate.Holds]
    omega
  · rw [Bool.eq_iff_iff, Candidate.covers_iff, Candidate.covers_iff]
    simp only [Candidate.Holds]
    omega

variable (hcs : ∀ c ∈ cs, c.rect.within w h = true)
include hcs

theorem within_le {c : Candidate} (hc : c ∈ cs) : c.rect.x0 ≤ w ∧ c.rect.x1 ≤ w ∧ c.rect.y0 ≤ h ∧ c.rect.y1 ≤ h := by
  have := hcs c hc
  simp only [Rect.within, Bool.and_eq_true, decide_eq_true_iff] at this
  omega

/-! ### The spans of a line -/

theorem lineSpans_cuts (y : Nat) : ∀ c ∈ (coveringLine cs y).flatMap (fun c => [c.rect.x0, c.rect.x1]), c ≤ w := by
  intro v hv
  obtain ⟨c, hc, hv⟩ := List.mem_flatMap.mp hv
  obtain ⟨h0, h1, -⟩ := within_le hcs (List.mem_filter.mp hc).1
  simp only [List.mem_cons, List.not_mem_nil, or_false] at hv
  obtain rfl | rfl := hv
  · exact h0
  · exact h1

theorem elementarySpans_tile (y : Nat) : runsTile 0 w ((elementarySpans cs bg w y).map Span.run) := by
  rw [elementarySpans_runs]
  exact cutRuns_sort_tile _ (lineSpans_cuts hcs y)

theorem lineSpans_tile (y : Nat) : runsTile 0 w ((mergeSpans (elementarySpans cs bg w y)).map Span.run) := by
  rw [mergeSpans_runs]
  exact mergeRuns_tile (elementarySpans_tile hcs y)

theorem lineSpans_valueAt {x : Nat} (hx : x < w) (y : Nat) :
    valueAt ((mergeSpans (elementarySpans cs bg w y)).map Span.run) x = some (contentAt cs bg x y) := by
  have htile := elementarySpans_tile hcs (bg := bg) y
  rw [mergeSpans_runs, mergeRuns_valueAt htile]
  rw [elementarySpans_runs] at htile ⊢
  exact cutRuns_valueAt htile (fun p hp x' hlo hhi => contentAt_of_interval hp hlo hhi) (Nat.zero_le x) hx

omit hcs in
theorem lineSpans_maximal (y : Nat) : runsMaximal ((mergeSpans (elementarySpans cs bg w y)).map Span.run) := by
  rw [mergeSpans_runs]
  exact mergeRuns_maximal _

/-! ### The bands -/

omit hcs in
theorem buildBands_runs :
    (buildBands cs bg w h).map Band.run =
      mergeRuns (cutRuns (yCuts cs h) (fun y => mergeSpans (elementarySpans cs bg w y))) := by
  rw [buildBands, mergeBands_runs, List.map_map]
  rfl

omit hcs in
/-- The spans of a band are those of a line. -/
theorem buildBands_spans {b : Band} (hb : b ∈ buildBands cs bg w h) : ∃ y, b.spans = mergeSpans (elementarySpans cs bg w y) := by
  have hr := List.mem_map_of_mem (f := Band.run) hb
  rw [buildBands_runs] at hr
  obtain ⟨q, hq, hvalue⟩ := mergeRuns_value hr
  obtain ⟨p, -, rfl⟩ := List.mem_map.mp hq
  exact ⟨p.1, hvalue.symm⟩

theorem bandCuts_le : ∀ c ∈ cs.flatMap (fun c => [c.rect.y0, c.rect.y1]), c ≤ h := by
  intro v hv
  obtain ⟨c, hc, hv⟩ := List.mem_flatMap.mp hv
  obtain ⟨-, -, h0, h1⟩ := within_le hcs hc
  simp only [List.mem_cons, List.not_mem_nil, or_false] at hv
  obtain rfl | rfl := hv
  · exact h0
  · exact h1

theorem buildBands_tile : runsTile 0 h ((buildBands cs bg w h).map Band.run) := by
  rw [buildBands_runs]
  exact mergeRuns_tile (cutRuns_sort_tile _ (bandCuts_le hcs))

theorem buildBands_valueAt {y : Nat} (hy : y < h) :
    valueAt ((buildBands cs bg w h).map Band.run) y = some (mergeSpans (elementarySpans cs bg w y)) := by
  have htile : runsTile 0 h (cutRuns (yCuts cs h) (fun y => mergeSpans (elementarySpans cs bg w y))) :=
    cutRuns_sort_tile _ (bandCuts_le hcs)
  rw [buildBands_runs, mergeRuns_valueAt htile]
  exact cutRuns_valueAt htile (fun p hp y' hlo hhi => congrArg mergeSpans (elementarySpans_eq hp hlo hhi)) (Nat.zero_le y) hy

/-- A plan with the built bands is tiled and maximal, and gives each pixel the content of the ownership map. -/
theorem plan_built {p : Plan} (hw : p.width = w) (hh : p.height = h) (hbands : p.bands = buildBands cs bg w h) :
    p.Tiles ∧ p.Maximal ∧ ∀ x y : Nat, x < w → y < h → p.contentAt x y = some (contentAt cs bg x y) := by
  refine ⟨Plan.tiles_iff.mpr ⟨?_, fun b hb => ?_⟩, Plan.maximal_iff.mpr ⟨fun b hb => ?_, ?_⟩, fun x y hx hy => ?_⟩
  · rw [hbands, hh]
    exact buildBands_tile hcs
  · rw [hbands] at hb
    obtain ⟨y, hy⟩ := buildBands_spans hb
    rw [hy, hw]
    exact lineSpans_tile hcs y
  · rw [hbands] at hb
    obtain ⟨y, hy⟩ := buildBands_spans hb
    rw [hy]
    exact lineSpans_maximal y
  · rw [hbands, buildBands_runs]
    exact mergeRuns_maximal _
  · rw [Plan.contentAt_eq, hbands, buildBands_valueAt hcs hy, Option.bind_some, lineSpans_valueAt hcs hx]

end

/-- The content of each pixel of a span of a tiled plan. -/
theorem Plan.contentAt_of_mem {p : Plan} (hp : p.Tiles) {b : Band} (hb : b ∈ p.bands) {sp : Span} (hsp : sp ∈ b.spans)
    {x y : Nat} (hy0 : b.y0 ≤ y) (hy1 : y < b.y1) (hx0 : sp.x0 ≤ x) (hx1 : x < sp.x1) :
    p.contentAt x y = some sp.content ∧ x < p.width ∧ y < p.height := by
  obtain ⟨hbands, hspans⟩ := Plan.tiles_iff.mp hp
  have hbr := List.mem_map_of_mem (f := Band.run) hb
  have hspr := List.mem_map_of_mem (f := Span.run) hsp
  refine ⟨?_, hx1.trans_le ((hspans b hb).mem hspr).2.2, hy1.trans_le (hbands.mem hbr).2.2⟩
  rw [Plan.contentAt_eq, hbands.valueAt_of_mem hbr hy0 hy1, Option.bind_some]
  exact (hspans b hb).valueAt_of_mem hspr hx0 hx1

/-- Every pixel of a tiled plan lies in a span. -/
theorem Plan.exists_span {p : Plan} (hp : p.Tiles) {x y : Nat} (hx : x < p.width) (hy : y < p.height) :
    ∃ b ∈ p.bands, ∃ sp ∈ b.spans, b.y0 ≤ y ∧ y < b.y1 ∧ sp.x0 ≤ x ∧ x < sp.x1 := by
  obtain ⟨hbands, hspans⟩ := Plan.tiles_iff.mp hp
  obtain ⟨_, hr, hy0, hy1⟩ := hbands.exists_run (Nat.zero_le y) hy
  obtain ⟨b, hb, rfl⟩ := List.mem_map.mp hr
  obtain ⟨_, hr, hx0, hx1⟩ := (hspans b hb).exists_run (Nat.zero_le x) hx
  obtain ⟨sp, hsp, rfl⟩ := List.mem_map.mp hr
  exact ⟨b, hb, sp, hsp, hy0, hy1, hx0, hx1⟩

/-- A tiled plan that gives each pixel the content of the ownership map describes its candidates. -/
theorem describes_of_contentAt {p : Plan} {cs : List Candidate} {bg : Colour} (hp : p.Tiles)
    (h : ∀ x y : Nat, x < p.width → y < p.height → p.contentAt x y = some (contentAt cs bg x y)) :
    p.Describes cs bg := by
  intro b hb sp hsp x y hy0 hy1 hx0 hx1
  obtain ⟨hcontent, hx, hy⟩ := Plan.contentAt_of_mem hp hb hsp hy0 hy1 hx0 hx1
  rw [Option.some.inj (hcontent.symm.trans (h x y hx hy))]
  exact contentAt_shows cs bg x y

/-! ### The limits (R114, R115) -/

theorem length_flatMap_pair (cs : List Candidate) (f g : Candidate → Nat) :
    (cs.flatMap (fun c => [f c, g c])).length = 2 * cs.length := by
  induction cs with
  | nil => rfl
  | cons c cs ih => rw [List.flatMap_cons, List.length_append, ih, List.length_cons, List.length_cons]; simp; omega

theorem buildBands_length_le (cs : List Candidate) (bg : Colour) (w h : Nat) :
    (buildBands cs bg w h).length ≤ 2 * cs.length + 1 := by
  rw [← List.length_map (f := Band.run), buildBands_runs]
  refine (mergeRuns_length_le _).trans ((cutRuns_length_le _ _).trans ?_)
  rw [List.length_cons, List.length_cons, length_flatMap_pair]
  omega

theorem lineSpans_length_le (cs : List Candidate) (bg : Colour) (w y : Nat) :
    (mergeSpans (elementarySpans cs bg w y)).length ≤ 2 * cs.length + 1 := by
  rw [← List.length_map (f := Span.run), mergeSpans_runs, elementarySpans_runs]
  refine (mergeRuns_length_le _).trans ((cutRuns_length_le _ _).trans ?_)
  rw [List.length_cons, List.length_cons, length_flatMap_pair]
  have := List.length_filter_le (fun c : Candidate => decide (c.rect.y0 ≤ y) && decide (y < c.rect.y1)) cs
  unfold coveringLine
  omega

/-- The plan of at most 8 candidates is within the limits: at most 17 bands of at most 17 spans. -/
theorem buildBands_fits {cs : List Candidate} (hcs : cs.length ≤ 8) (bg : Colour) (w h : Nat) :
    (buildBands cs bg w h).length ≤ 128 ∧ ((buildBands cs bg w h).map (fun b => b.spans.length)).sum ≤ 1024 := by
  have hlen := buildBands_length_le cs bg w h
  refine ⟨by omega, ?_⟩
  have hspans : ∀ n ∈ (buildBands cs bg w h).map (fun b => b.spans.length), n ≤ 17 := by
    intro n hn
    obtain ⟨b, hb, rfl⟩ := List.mem_map.mp hn
    obtain ⟨y, hy⟩ := buildBands_spans hb
    have := lineSpans_length_le cs bg w y
    rw [hy]
    omega
  have hsum := List.sum_le_card_nsmul _ 17 hspans
  rw [List.length_map, smul_eq_mul] at hsum
  omega

theorem withinLimits_iff {bs : List Band} :
    withinLimits bs = true ↔ bs.length ≤ 128 ∧ (bs.map (fun b => b.spans.length)).sum ≤ 1024 := by
  rw [withinLimits, Bool.and_eq_true, decide_eq_true_iff, decide_eq_true_iff]
  exact Iff.rfl

/-! ### The plan of a completed resolve -/

/-- The plan of the job's epoch and panel over the candidates. -/
def ResolveJob.planOf (j : ResolveJob) (st : PlanStatus) (cs : List Candidate) : Plan :=
  { epoch := j.epoch, status := st, width := j.width, height := j.height,
    bands := buildBands cs j.background j.width j.height }

theorem ResolveJob.plan_of_fits {j : ResolveJob} (h : (j.planOf .full j.candidates).Fits) :
    j.plan = j.planOf .full j.candidates := if_pos (withinLimits_iff.mpr h)

theorem ResolveJob.plan_of_not_fits {j : ResolveJob} (h : ¬ (j.planOf .full j.candidates).Fits) :
    j.plan = j.planOf .reduced (j.candidates.filter (fun c => c.pinned)) :=
  if_neg (fun hw => h (withinLimits_iff.mp hw))

section
variable {j : ResolveJob} (hj : j.Sound)
include hj

theorem ResolveJob.planOf_filter (st : PlanStatus) (f : Candidate → Bool) :
    (j.planOf st (j.candidates.filter f)).Tiles ∧ (j.planOf st (j.candidates.filter f)).Maximal
      ∧ ∀ x y : Nat, x < j.width → y < j.height →
          (j.planOf st (j.candidates.filter f)).contentAt x y = some (contentAt (j.candidates.filter f) j.background x y) :=
  plan_built (fun c hc => hj.2.2.1 c (List.mem_filter.mp hc).1) rfl rfl rfl

theorem ResolveJob.planOf_full :
    (j.planOf .full j.candidates).Tiles ∧ (j.planOf .full j.candidates).Maximal
      ∧ ∀ x y : Nat, x < j.width → y < j.height →
          (j.planOf .full j.candidates).contentAt x y = some (contentAt j.candidates j.background x y) :=
  plan_built hj.2.2.1 rfl rfl rfl

/-- A completed plan has the form of R108 and R114. -/
theorem ResolveJob.plan_legal : j.plan.Tiles ∧ j.plan.Maximal ∧ j.plan.Fits := by
  by_cases hfits : (j.planOf .full j.candidates).Fits
  · obtain ⟨htiles, hmaximal, -⟩ := j.planOf_full hj
    rw [ResolveJob.plan_of_fits hfits]
    exact ⟨htiles, hmaximal, hfits⟩
  · obtain ⟨htiles, hmaximal, -⟩ := j.planOf_filter hj .reduced (fun c => c.pinned)
    rw [ResolveJob.plan_of_not_fits hfits]
    exact ⟨htiles, hmaximal, buildBands_fits hj.2.2.2 _ _ _⟩

/-- A tiled, maximal plan that describes all candidates is the full plan, pixel by pixel and so band by band (R109). -/
theorem ResolveJob.bands_of_describes {p : Plan} (hw : p.width = j.width) (hh : p.height = j.height) (htiles : p.Tiles)
    (hmaximal : p.Maximal) (hdescribes : p.Describes j.candidates j.background)
    (hlevels : ∀ c ∈ j.candidates, ∀ d ∈ j.candidates, ∀ x y : Nat, c.Holds x y → d.Holds x y → c.level = d.level →
      c.content = d.content) : p.bands = (j.planOf .full j.candidates).bands := by
  obtain ⟨hfull, hfullMax, hcontent⟩ := j.planOf_full hj
  refine planIsDeterminedByItsPixels p _ hw hh htiles hfull hmaximal hfullMax fun x y hx hy => ?_
  obtain ⟨b, hb, sp, hsp, hy0, hy1, hx0, hx1⟩ := Plan.exists_span htiles hx hy
  rw [(Plan.contentAt_of_mem htiles hb hsp hy0 hy1 hx0 hx1).1, hcontent x y (hw ▸ hx) (hh ▸ hy)]
  exact congrArg some ((hdescribes b hb sp hsp x y hy0 hy1 hx0 hx1).unique (contentAt_shows _ _ x y) hlevels)

end

theorem exec_resolveCompletion {s : State} {j : ResolveJob} (h : s.resolver = .resolving j) :
    exec .resolveCompletion s = .next { s with resolver := .ready j.plan } := by
  show Host.Outcome.next s.completeResolve = _
  simp [State.completeResolve, h]

/-- Settles O28: the full plan where it fits, else the reduced plan, which any plan of all candidates would exceed. -/
theorem completionBuildsTheExactPlan : Obligations.CompletionBuildsTheExactPlan := by
  intro j s hres hj
  obtain ⟨htiles, hmaximal, hfits⟩ := j.plan_legal hj
  refine ⟨j.plan, exec_resolveCompletion hres, ?_⟩
  by_cases hfull : (j.planOf .full j.candidates).Fits
  · obtain ⟨-, -, hcontent⟩ := j.planOf_full hj
    rw [ResolveJob.plan_of_fits hfull] at htiles hmaximal hfits ⊢
    exact ⟨rfl, rfl, rfl, htiles, hmaximal, hfits, fun _ => describes_of_contentAt htiles hcontent, nofun⟩
  · obtain ⟨-, -, hcontent⟩ := j.planOf_filter hj .reduced (fun c => c.pinned)
    rw [ResolveJob.plan_of_not_fits hfull] at htiles hmaximal hfits ⊢
    refine ⟨rfl, rfl, rfl, htiles, hmaximal, hfits, nofun, fun _ => ⟨describes_of_contentAt htiles hcontent, ?_⟩⟩
    intro p' hw hh htiles' hmaximal' hdescribes hlevels hfits'
    have hbands := j.bands_of_describes hj hw hh htiles' hmaximal' hdescribes hlevels
    refine hfull ?_
    unfold Plan.Fits at hfits' ⊢
    rwa [hbands] at hfits'

end Sys2Proof.Machine
end

section
/-! PROOFS. The fields of regions and of pool entries, fact by fact (R2, R4 to R6, R43), and how an AMEND's fields merge into an
entry's (R47, R56). -/

namespace Sys2Proof.Machine

set_option Elab.async false

/-! ### The fields of a committed region -/

/-- What `Region.activeFits` asks, but for the presentation of a pinned region, over a panel and a lease maximum. -/
structure ActiveFacts (w h leaseMax : Nat) (r : Region) : Prop where
  rect : ∃ q, r.rect = some q ∧ q.within w h = true
  fill : r.fillFits = true
  client : r.owner ≠ .sup →
    (∃ l, r.layer = some l ∧ l ≤ 15) ∧ r.rank = none ∧ ∃ l, r.lease = some l ∧ 1 ≤ l ∧ l ≤ leaseMax
  sup : r.owner = .sup →
    r.layer = none ∧ (∃ q, r.rank = some q ∧ q ≤ 7) ∧ r.fallback = none ∧ r.lease = none ∧ r.remaining = none

/-- The lease maximum of a session. -/
def State.leaseMaxOf (s : State) (x : Session) : Nat := (s.sessions.get x).leaseMax

theorem Region.activeFits_iff {s : State} {r : Region} :
    r.activeFits s = true ↔
      ActiveFacts s.scan.width s.scan.height (s.leaseMaxOf r.owner) r ∧ (r.owner = .sup → r.presentation = .fill) := by
  have hrect : r.rect.any (fun q => q.within s.scan.width s.scan.height) = true
      ↔ ∃ q, r.rect = some q ∧ q.within s.scan.width s.scan.height = true := by
    simp [Option.any_eq_true]
  unfold Region.activeFits
  cases ho : r.owner with
  | sup =>
    simp only [Bool.and_eq_true, hrect, Option.isNone_iff_eq_none, Option.any_eq_true, decide_eq_true_iff]
    constructor
    · rintro ⟨⟨hr, hf⟩, ⟨⟨⟨⟨hlayer, hrank⟩, hfallback⟩, hlease⟩, hremaining⟩, hpres⟩
      exact ⟨⟨hr, hf, fun h => absurd ho h, fun _ => ⟨hlayer, hrank, hfallback, hlease, hremaining⟩⟩, fun _ => hpres⟩
    · rintro ⟨⟨hr, hf, -, hsup⟩, hpres⟩
      obtain ⟨hlayer, hrank, hfallback, hlease, hremaining⟩ := hsup ho
      exact ⟨⟨hr, hf⟩, ⟨⟨⟨⟨hlayer, hrank⟩, hfallback⟩, hlease⟩, hremaining⟩, hpres trivial⟩
  | client n =>
    simp only [Bool.and_eq_true, hrect, Option.isNone_iff_eq_none, Option.any_eq_true, decide_eq_true_iff]
    constructor
    · rintro ⟨⟨hr, hf⟩, ⟨hlayer, hrank⟩, hlease⟩
      exact ⟨⟨hr, hf, fun _ => ⟨hlayer, hrank, hlease⟩, fun h => by rw [ho] at h; cases h⟩, nofun⟩
    · rintro ⟨⟨hr, hf, hclient, -⟩, -⟩
      obtain ⟨hlayer, hrank, hlease⟩ := hclient (by rw [ho]; nofun)
      exact ⟨⟨hr, hf⟩, ⟨hlayer, hrank⟩, hlease⟩

/-- What a region has in its remaining count: a client's at least the lower bound and at most the lease. -/
theorem Region.remainingFits_iff {r : Region} {low : Nat} :
    r.remainingFits low = true ↔ (r.owner ≠ .sup → ∃ m l, r.remaining = some m ∧ r.lease = some l ∧ low ≤ m ∧ m ≤ l) := by
  unfold Region.remainingFits Region.pinned
  by_cases ho : r.owner = .sup
  · simp [ho]
  · cases hr : r.remaining <;> cases hl : r.lease <;> simp [ho]

/-- A fallback is shown only where there is one. -/
def Region.FallbackShown (r : Region) : Prop := r.presentation = .fallback → r.fallback.isSome = true

theorem Region.shapely_of_stagedNew {s : State} {r : Region} (h : r.state = .stagedNew) :
    r.shapely s = true ↔ r = newRegion r.owner r.tag := by
  simp [Region.shapely, h]

theorem fallbackShown_iff {r : Region} :
    (decide (r.presentation ≠ .fallback) || r.fallback.isSome) = true ↔ r.FallbackShown := by
  rw [Bool.or_eq_true, decide_eq_true_iff, Region.FallbackShown]
  tauto

/-- A LIVE or RETIRING region, apart from its lower bound for the remaining count. -/
structure StandingFacts (s : State) (low : Nat) (r : Region) : Prop where
  active : ActiveFacts s.scan.width s.scan.height (s.leaseMaxOf r.owner) r
  remaining : r.remainingFits low = true
  graceLeft : r.graceLeft = none
  filled : r.owner = .sup → r.presentation = .fill
  fallback : r.FallbackShown

theorem standing_iff {s : State} {r : Region} {low : Nat} :
    (r.activeFits s && r.remainingFits low && r.graceLeft.isNone && (decide (r.presentation ≠ .fallback) || r.fallback.isSome))
        = true ↔ StandingFacts s low r := by
  rw [Bool.and_eq_true, Bool.and_eq_true, Bool.and_eq_true, Region.activeFits_iff, fallbackShown_iff,
    Option.isNone_iff_eq_none]
  exact ⟨fun ⟨⟨⟨⟨ha, hp⟩, hr⟩, hg⟩, hf⟩ => ⟨ha, hr, hg, hp, hf⟩, fun ⟨ha, hr, hg, hp, hf⟩ => ⟨⟨⟨⟨ha, hp⟩, hr⟩, hg⟩, hf⟩⟩

theorem Region.shapely_of_live {s : State} {r : Region} (h : r.state = .live) :
    r.shapely s = true ↔ StandingFacts s 1 r := by
  rw [← standing_iff, Region.shapely, h]

theorem Region.shapely_of_retiring {s : State} {r : Region} (h : r.state = .retiring) :
    r.shapely s = true ↔ StandingFacts s 0 r := by
  rw [← standing_iff, Region.shapely, h]

/-- A LAPSED region (R2, R14). -/
structure LapsedFacts (s : State) (r : Region) : Prop where
  active : ActiveFacts s.scan.width s.scan.height (s.leaseMaxOf r.owner) r
  client : r.owner ≠ .sup
  remaining : r.remaining = some 0
  graceLeft : ∃ g, r.graceLeft = some g ∧ 1 ≤ g ∧ g ≤ 15
  hidden : r.presentation = .none

theorem Region.shapely_of_lapsed {s : State} {r : Region} (h : r.state = .lapsed) :
    r.shapely s = true ↔ LapsedFacts s r := by
  rw [Region.shapely, h]
  simp only [Bool.and_eq_true, Region.activeFits_iff, Option.any_eq_true, decide_eq_true_iff, Region.pinned,
    Bool.not_eq_true', beq_eq_false_iff_ne]
  exact ⟨fun ⟨⟨⟨⟨⟨ha, _⟩, hc⟩, hr⟩, hg⟩, hp⟩ => ⟨ha, hc, hr, hg, hp⟩,
    fun ⟨ha, hc, hr, hg, hp⟩ => ⟨⟨⟨⟨⟨ha, fun h => absurd h hc⟩, hc⟩, hr⟩, hg⟩, hp⟩⟩

/-- A region's shape depends on the panel and on its owner's lease maximum alone. -/
theorem Region.shapely_congr {s t : State} {r : Region} (hw : t.scan.width = s.scan.width) (hh : t.scan.height = s.scan.height)
    (hl : t.leaseMaxOf r.owner = s.leaseMaxOf r.owner) : r.shapely t = r.shapely s := by
  have hactive : r.activeFits t = r.activeFits s := by
    rw [Bool.eq_iff_iff, Region.activeFits_iff, Region.activeFits_iff, hw, hh, hl]
  unfold Region.shapely
  rw [hactive]

theorem ActiveFacts.of_fields {w h m : Nat} {q r : Region} (hq : ActiveFacts w h m q) (howner : r.owner = q.owner)
    (hrect : r.rect = q.rect) (hlayer : r.layer = q.layer) (hrank : r.rank = q.rank) (hfill : r.fill = q.fill)
    (hstream : r.stream = q.stream) (hcolour : r.colour = q.colour) (hfallback : r.fallback = q.fallback)
    (hlease : r.lease = q.lease) (hremaining : r.owner = .sup → r.remaining = q.remaining) : ActiveFacts w h m r where
  rect := by rw [hrect]; exact hq.rect
  fill := by
    have := hq.fill
    unfold Region.fillFits at this ⊢
    rw [hfill, howner, hstream, hcolour]
    exact this
  client ho := by rw [hlayer, hrank, hlease]; exact hq.client (howner ▸ ho)
  sup ho := by
    rw [hlayer, hrank, hlease, hfallback, hremaining ho]
    exact hq.sup (howner ▸ ho)

/-! ### The staged fields of an entry -/

/-- The fill that an entry's fields stand over: that of a region already there (R43). -/
def heldFill (kind : EntryKind) (r : Region) : Option Fill := if kind = .amend then r.fill else none

/-- What `PoolEntry.shapely` asks of the fields of a NEW, PIN or AMEND entry of the region. -/
structure StagedFacts (w h leaseMax : Nat) (r : Region) (kind : EntryKind) (f : StagedFields) : Prop where
  rect : ∀ q, f.rect = some q → q.within w h = true
  client : r.owner ≠ .sup →
    (∀ l, f.layer = some l → l ≤ 15) ∧ (∀ l, f.lease = some l → 1 ≤ l ∧ l ≤ leaseMax) ∧ f.rank = none
  sup : r.owner = .sup → f.layer = none ∧ f.lease = none ∧ f.fallback = .untouched
    ∧ (kind = .amend → f.rank = none) ∧ (kind = .pin → ∃ q, f.rank = some q ∧ q ≤ 7)
  fill : f.fillFits r.pinned (heldFill kind r) = true
  whole : kind ≠ .amend → f.rect.isSome = true ∧ f.fill.isSome = true
  new : kind = .new → f.layer.isSome = true ∧ f.lease.isSome = true ∧ f.fallback ≠ .remove

theorem Option.all_eq_true_iff {α : Type} {o : Option α} {p : α → Bool} : o.all p = true ↔ ∀ a, o = some a → p a = true := by
  cases o <;> simp

section
variable {s : State} {r : Region} {k : Slot} {f : StagedFields}

theorem PoolEntry.shapely_new (ho : r.owner ≠ .sup) :
    PoolEntry.shapely s r ⟨k, .new, f⟩ = true ↔
      StagedFacts s.scan.width s.scan.height (s.leaseMaxOf r.owner) r .new f := by
  have hp : r.pinned = false := by simpa [Region.pinned] using ho
  simp only [PoolEntry.shapely, Bool.and_eq_true, Option.all_eq_true_iff, decide_eq_true_iff, Option.isNone_iff_eq_none]
  constructor
  · rintro ⟨⟨⟨⟨⟨⟨⟨hrect, ⟨hlayer, hlease⟩, hrank⟩, hrs⟩, hls⟩, hlease'⟩, hfs⟩, hfill⟩, hfb⟩
    exact ⟨hrect, fun _ => ⟨hlayer, hlease, hrank⟩, fun h => absurd h ho, by rw [hp]; exact hfill, fun _ => ⟨hrs, hfs⟩,
      fun _ => ⟨hls, hlease', hfb⟩⟩
  · rintro ⟨hrect, hclient, -, hfill, hwhole, hnew⟩
    obtain ⟨hlayer, hlease, hrank⟩ := hclient ho
    obtain ⟨hrs, hfs⟩ := hwhole nofun
    obtain ⟨hls, hlease', hfb⟩ := hnew rfl
    rw [hp] at hfill
    exact ⟨⟨⟨⟨⟨⟨⟨hrect, ⟨hlayer, hlease⟩, hrank⟩, hrs⟩, hls⟩, hlease'⟩, hfs⟩, hfill⟩, hfb⟩

theorem PoolEntry.shapely_pin (ho : r.owner = .sup) :
    PoolEntry.shapely s r ⟨k, .pin, f⟩ = true ↔
      StagedFacts s.scan.width s.scan.height (s.leaseMaxOf r.owner) r .pin f := by
  have hp : r.pinned = true := by simpa [Region.pinned] using ho
  simp only [PoolEntry.shapely, Bool.and_eq_true, Option.all_eq_true_iff, decide_eq_true_iff, Option.isNone_iff_eq_none,
    Option.any_eq_true]
  constructor
  · rintro ⟨⟨⟨⟨⟨hrect, ⟨hlayer, hlease⟩, hfb⟩, hrs⟩, hrank⟩, hfs⟩, hfill⟩
    exact ⟨hrect, fun h => absurd ho h, fun _ => ⟨hlayer, hlease, hfb, nofun, fun _ => hrank⟩, by rw [hp]; exact hfill,
      fun _ => ⟨hrs, hfs⟩, nofun⟩
  · rintro ⟨hrect, -, hsup, hfill, hwhole, -⟩
    obtain ⟨hlayer, hlease, hfb, -, hrank⟩ := hsup ho
    obtain ⟨hrs, hfs⟩ := hwhole nofun
    rw [hp] at hfill
    exact ⟨⟨⟨⟨⟨hrect, ⟨hlayer, hlease⟩, hfb⟩, hrs⟩, hrank rfl⟩, hfs⟩, hfill⟩

theorem PoolEntry.shapely_amend :
    PoolEntry.shapely s r ⟨k, .amend, f⟩ = true ↔
      StagedFacts s.scan.width s.scan.height (s.leaseMaxOf r.owner) r .amend f := by
  have hp : r.pinned = true ↔ r.owner = .sup := by simp [Region.pinned]
  simp only [PoolEntry.shapely, Bool.and_eq_true, Option.all_eq_true_iff]
  by_cases ho : r.owner = .sup
  · rw [if_pos (hp.mpr ho)]
    simp only [Bool.and_eq_true, Option.isNone_iff_eq_none, decide_eq_true_iff]
    constructor
    · rintro ⟨⟨hrect, ⟨⟨hlayer, hlease⟩, hfb⟩, hrank⟩, hfill⟩
      exact ⟨hrect, fun h => absurd ho h, fun _ => ⟨hlayer, hlease, hfb, fun _ => hrank, nofun⟩, hfill,
        fun h => absurd rfl h, nofun⟩
    · rintro ⟨hrect, -, hsup, hfill, -, -⟩
      obtain ⟨hlayer, hlease, hfb, hrank, -⟩ := hsup ho
      exact ⟨⟨hrect, ⟨⟨hlayer, hlease⟩, hfb⟩, hrank rfl⟩, hfill⟩
  · rw [if_neg (fun h => ho (hp.mp h))]
    simp only [Bool.and_eq_true, Option.isNone_iff_eq_none, Option.all_eq_true_iff, decide_eq_true_iff]
    constructor
    · rintro ⟨⟨hrect, ⟨hlayer, hlease⟩, hrank⟩, hfill⟩
      exact ⟨hrect, fun _ => ⟨hlayer, hlease, hrank⟩, fun h => absurd h ho, hfill, fun h => absurd rfl h, nofun⟩
    · rintro ⟨hrect, hclient, -, hfill, -, -⟩
      obtain ⟨hlayer, hlease, hrank⟩ := hclient ho
      exact ⟨⟨hrect, ⟨hlayer, hlease⟩, hrank⟩, hfill⟩

theorem PoolEntry.shapely_removal {kind : EntryKind} (h : kind = .revive ∨ kind = .release ∨ kind = .unpin) :
    PoolEntry.shapely s r ⟨k, kind, f⟩ = true ↔ f = StagedFields.empty := by
  obtain rfl | rfl | rfl := h <;> simp [PoolEntry.shapely]

end

/-- The fields of a shapely entry of a region that admits it, of the kinds that carry fields. -/
theorem PoolEntry.staged_of_shapely {s : State} {r : Region} {e : PoolEntry} (h : e.shapely s r = true)
    (hadmits : r.admits e.kind = true) (hkind : e.kind = .new ∨ e.kind = .pin ∨ e.kind = .amend) :
    StagedFacts s.scan.width s.scan.height (s.leaseMaxOf r.owner) r e.kind e.fields := by
  obtain ⟨k, kind, f⟩ := e
  obtain ⟨hnew, hpin, -⟩ := Region.admits_pinned hadmits
  dsimp only at hkind
  obtain rfl | rfl | rfl := hkind
  · exact (PoolEntry.shapely_new (hnew rfl).2).mp h
  · exact (PoolEntry.shapely_pin (hpin rfl).2).mp h
  · exact PoolEntry.shapely_amend.mp h

theorem PoolEntry.shapely_of_staged {s : State} {r : Region} {e : PoolEntry} (hadmits : r.admits e.kind = true)
    (hkind : e.kind = .new ∨ e.kind = .pin ∨ e.kind = .amend)
    (h : StagedFacts s.scan.width s.scan.height (s.leaseMaxOf r.owner) r e.kind e.fields) : e.shapely s r = true := by
  obtain ⟨k, kind, f⟩ := e
  obtain ⟨hnew, hpin, -⟩ := Region.admits_pinned hadmits
  dsimp only at hkind
  obtain rfl | rfl | rfl := hkind
  · exact (PoolEntry.shapely_new (hnew rfl).2).mpr h
  · exact (PoolEntry.shapely_pin (hpin rfl).2).mpr h
  · exact PoolEntry.shapely_amend.mpr h

/-- An entry's shape depends on the panel, and on the region's owner, its lease maximum and, under an AMEND, its fill. -/
theorem PoolEntry.shapely_congr {s t : State} {q r : Region} {e : PoolEntry} (hw : t.scan.width = s.scan.width)
    (hh : t.scan.height = s.scan.height) (howner : r.owner = q.owner) (hfill : r.fill = q.fill)
    (hl : t.leaseMaxOf q.owner = s.leaseMaxOf q.owner) : e.shapely t r = e.shapely s q := by
  have hl : (t.sessions.get q.owner).leaseMax = (s.sessions.get q.owner).leaseMax := hl
  unfold PoolEntry.shapely Region.pinned
  rw [hw, hh, howner, hfill, hl]

/-! ### An AMEND's fields, and what they merge into (R47, R56) -/

/-- What R56 lets an AMEND carry, over the fill its entry and its region show now. -/
structure AmendFacts (w h leaseMax : Nat) (pinned : Bool) (shown : Option Fill) (f : StagedFields) : Prop where
  rect : ∀ q, f.rect = some q → q.within w h = true
  client : pinned = false →
    (∀ l, f.layer = some l → l ≤ 15) ∧ (∀ l, f.lease = some l → 1 ≤ l ∧ l ≤ leaseMax) ∧ f.stream = none
  sup : pinned = true → f.layer = none ∧ f.lease = none ∧ f.fallback = .untouched ∧ ∀ n, f.stream = some n → n ≤ 3
  source : f.fill = some .source → f.colour = none ∧ (pinned = true → f.stream.isSome = true)
  solid : f.fill = some .solid → f.colour.isSome = true ∧ f.stream = none
  colour : f.fill = none → f.colour.isSome = true → shown ≠ some .source
  stream : f.fill = none → f.stream.isSome = true → shown ≠ some .solid

theorem fillOf_eq (b : Byte) : fillOf b = some .source ∧ b = 0 ∨ fillOf b = some .solid ∧ b = 1
    ∨ fillOf b = none ∧ b ≠ 0 ∧ b ≠ 1 := by
  unfold fillOf
  split
  · next h => exact .inl ⟨rfl, h⟩
  · next h =>
    split
    · next h' => exact .inr (.inl ⟨rfl, h'⟩)
    · next h' => exact .inr (.inr ⟨rfl, h, h'⟩)

theorem carried_eq_some {α : Type} {b : Bool} {v a : α} : carried b v = some a ↔ b = true ∧ v = a := by
  cases b <;> simp [carried]

theorem carried_isSome {α : Type} {b : Bool} {v : α} : (carried b v).isSome = b := by cases b <;> rfl

theorem carried_eq_none {α : Type} {b : Bool} {v : α} : carried b v = none ↔ b = false := by cases b <;> simp [carried]

/-- The fill step that every AMEND passes. -/
theorem amendFill_facts {b : FieldBlock} {shown : Option Fill} (h : amendFillValid b shown = true) :
    ((amendFields b).fill = some .source → (amendFields b).colour = none)
      ∧ ((amendFields b).fill = some .solid → (amendFields b).colour.isSome = true)
      ∧ ((amendFields b).fill = none → bitSet b 4 = false)
      ∧ ((amendFields b).fill = none → (amendFields b).colour.isSome = true → shown ≠ some .source) := by
  unfold amendFillValid at h
  simp only [amendFields, carried_eq_none, carried_isSome]
  cases h4 : bitSet b 4 with
  | false =>
    simp only [h4, Bool.false_eq_true, if_false, Bool.not_eq_true', Bool.and_eq_false_iff, decide_eq_false_iff_not] at h ⊢
    exact ⟨nofun, nofun, fun _ => trivial, fun _ h6 => h.resolve_left (by rw [h6]; nofun)⟩
  | true =>
    simp only [h4, if_true] at h ⊢
    obtain ⟨hf, -⟩ | ⟨hf, -⟩ | ⟨hf, -⟩ := fillOf_eq b.fill
    · rw [hf] at h ⊢
      exact ⟨fun _ => by simpa using h, nofun, nofun, nofun⟩
    · rw [hf] at h ⊢
      exact ⟨nofun, fun _ => h, nofun, nofun⟩
    · rw [hf] at h
      cases h

/-- The clamped fields of a client's AMEND (R56). -/
theorem amendClient_facts {b : FieldBlock} {shown : Option Fill} {w h leaseMax : Nat} (hvalid : amendValidClient b shown = true)
    (hmax : 1 ≤ leaseMax) (hrect : ∀ q, (clampedFields b leaseMax).rect = some q → q.within w h = true) :
    AmendFacts w h leaseMax false shown (clampedFields b leaseMax) := by
  simp only [amendValidClient, Bool.and_eq_true, Bool.not_eq_true', Bool.and_eq_false_iff, decide_eq_false_iff_not] at hvalid
  obtain ⟨⟨⟨⟨⟨-, hlayer⟩, hlease⟩, hfill⟩, h5⟩, -⟩ := hvalid
  obtain ⟨hsource, hsolid, -, hcolour⟩ := amendFill_facts hfill
  have hstream : (clampedFields b leaseMax).stream = none := carried_eq_none.mpr h5
  refine ⟨hrect, fun _ => ⟨fun l hl => ?_, fun l hl => ?_, hstream⟩, nofun, fun hf => ⟨hsource hf, nofun⟩,
    fun hf => ⟨hsolid hf, hstream⟩, hcolour, fun _ hs => by rw [hstream] at hs; cases hs⟩
  · obtain ⟨h1, rfl⟩ := carried_eq_some.mp (show carried (bitSet b 1) b.layer.toNat = some l from hl)
    exact not_lt.mp (hlayer.resolve_left (by rw [h1]; nofun))
  · obtain ⟨l', hl', rfl⟩ := Option.map_eq_some_iff.mp hl
    obtain ⟨h3, rfl⟩ := carried_eq_some.mp (show carried (bitSet b 3) b.lease.toNat = some l' from hl')
    have hne : b.lease.toNat ≠ 0 := fun h0 =>
      (hlease.resolve_left (by rw [h3]; nofun)) (BitVec.eq_of_toNat_eq h0)
    omega

/-- The fields of the supervisor's AMEND (R56, R58). -/
theorem amendPinned_facts {b : FieldBlock} {shown : Option Fill} {w h leaseMax : Nat} (hvalid : amendValidPinned b shown = true)
    (hrect : ∀ q, (clampedFields b leaseMax).rect = some q → q.within w h = true) :
    AmendFacts w h leaseMax true shown (clampedFields b leaseMax) := by
  simp only [amendValidPinned, Bool.and_eq_true, Bool.not_eq_true'] at hvalid
  obtain ⟨⟨⟨⟨⟨⟨⟨-, h1⟩, -⟩, h3⟩, h7⟩, h8⟩, hfill⟩, hstream⟩ := hvalid
  obtain ⟨hsource, hsolid, hbit4, hcolour⟩ := amendFill_facts hfill
  simp only [amendStreamValid, Bool.and_eq_true, Bool.not_eq_true', Bool.and_eq_false_iff, decide_eq_false_iff_not] at hstream
  obtain ⟨hsmall, hstream⟩ := hstream
  have hlease : (clampedFields b leaseMax).lease = none := by simp [clampedFields, amendFields, h3, carried]
  have hfallback : (clampedFields b leaseMax).fallback = .untouched := by simp [clampedFields, amendFields, h7, h8]
  have hfilled {v : Fill} (hf : (amendFields b).fill = some v) : bitSet b 4 = true ∧ fillOf b.fill = some v := by
    simp only [amendFields] at hf
    cases h4 : bitSet b 4 with
    | false => rw [h4] at hf; cases hf
    | true => rw [h4] at hf; exact ⟨rfl, hf⟩
  refine ⟨hrect, nofun, fun _ => ⟨carried_eq_none.mpr h1, hlease, hfallback, fun n hn => ?_⟩, fun hf => ⟨hsource hf, fun _ => ?_⟩,
    fun hf => ⟨hsolid hf, ?_⟩, hcolour, fun hf hs => ?_⟩
  · obtain ⟨h5, rfl⟩ := carried_eq_some.mp (show carried (bitSet b 5) b.stream.toNat = some n from hn)
    exact not_lt.mp (hsmall.resolve_left (by rw [h5]; nofun))
  · obtain ⟨h4, hv⟩ := hfilled hf
    rw [if_pos h4, hv] at hstream
    exact carried_isSome.trans hstream
  · obtain ⟨h4, hv⟩ := hfilled hf
    rw [if_pos h4, hv] at hstream
    exact carried_eq_none.mpr (by simpa using hstream)
  · have h5 : bitSet b 5 = true := carried_isSome.symm.trans hs
    rw [if_neg (by rw [hbit4 hf]; nofun)] at hstream
    simpa [h5] using hstream

/-- The fill, stream and colour of staged fields, by the fill staged (R43). -/
theorem StagedFields.fillFits_iff {f : StagedFields} {pinned : Bool} {held : Option Fill} :
    f.fillFits pinned held = true ↔
      (f.fill = some .source → f.colour = none ∧ (pinned = true → ∃ n, f.stream = some n ∧ n ≤ 3)
          ∧ (pinned = false → f.stream = none))
        ∧ (f.fill = some .solid → f.colour.isSome = true ∧ f.stream = none)
        ∧ (f.fill = none → (f.colour.isSome = true → held = some .solid)
            ∧ (f.stream.isSome = true → pinned = true ∧ held = some .source ∧ ∃ n, f.stream = some n ∧ n ≤ 3)) := by
  unfold StagedFields.fillFits
  cases hf : f.fill with
  | none => cases hc : f.colour <;> cases hs : f.stream <;> simp [and_assoc]
  | some v =>
    cases v with
    | source => cases pinned <;> cases hs : f.stream <;> simp
    | solid => simp

/-- A merge keeps the fill, stream and colour of the entry in step (R47). -/
theorem merge_fillFits {kind : EntryKind} {old new : StagedFields} {w h leaseMax : Nat} {pinned : Bool} {held : Option Fill}
    (hold : old.fillFits pinned held = true) (hnew : AmendFacts w h leaseMax pinned (old.fill.or held) new)
    (hheld : old.fill = none → held.isSome = true) : (old.merge kind new).fillFits pinned held = true := by
  obtain ⟨hosource, hosolid, honone⟩ := StagedFields.fillFits_iff.mp hold
  rw [StagedFields.fillFits_iff]
  cases hf : new.fill with
  | some v =>
    cases v with
    | source =>
      obtain ⟨-, hstream⟩ := hnew.source hf
      simp only [StagedFields.merge, hf, Option.some_or]
      refine ⟨fun _ => ⟨trivial, fun hp => ?_, fun hp => (hnew.client hp).2.2⟩, nofun, nofun⟩
      obtain ⟨n, hn⟩ := Option.isSome_iff_exists.mp (hstream hp)
      exact ⟨n, hn, (hnew.sup hp).2.2.2 n hn⟩
    | solid =>
      obtain ⟨hcolour, hstream⟩ := hnew.solid hf
      simp only [StagedFields.merge, hf, Option.some_or]
      exact ⟨nofun, fun _ => ⟨hcolour, trivial⟩, nofun⟩
  | none =>
    have hcolour := hnew.colour hf
    have hstream := hnew.stream hf
    have hclient : pinned = false → new.stream = none := fun hp => (hnew.client hp).2.2
    have hsup : pinned = true → ∀ n, new.stream = some n → n ≤ 3 := fun hp => (hnew.sup hp).2.2.2
    simp only [StagedFields.merge, hf, Option.none_or]
    refine ⟨fun hof => ?_, fun hof => ?_, fun hof => ?_⟩
    · obtain ⟨hoc, hosp, hoscl⟩ := hosource hof
      have hnc : new.colour = none := by
        rw [← Option.not_isSome_iff_eq_none]
        exact fun hc => hcolour hc (by rw [hof, Option.some_or])
      refine ⟨by rw [hnc, hoc]; rfl, fun hp => ?_, fun hp => by rw [hclient hp, hoscl hp]; rfl⟩
      cases hns : new.stream with
      | none => exact hosp hp
      | some n => exact ⟨n, rfl, hsup hp n hns⟩
    · obtain ⟨hoc, hos⟩ := hosolid hof
      have hns : new.stream = none := by
        rw [← Option.not_isSome_iff_eq_none]
        exact fun hs => hstream hs (by rw [hof, Option.some_or])
      exact ⟨by rw [Option.isSome_or, hoc, Bool.or_true], by rw [hns, hos]; rfl⟩
    · obtain ⟨hoc, hos⟩ := honone hof
      rw [hof, Option.none_or] at hcolour hstream
      obtain ⟨v, hv⟩ := Option.isSome_iff_exists.mp (hheld hof)
      constructor
      · intro hc
        rw [Option.isSome_or, Bool.or_eq_true] at hc
        obtain hc | hc := hc
        · have := hcolour hc
          cases v with
          | source => exact absurd hv this
          | solid => exact hv
        · exact hoc hc
      · intro hs
        cases hns : new.stream with
        | none =>
          rw [hns] at hs
          exact hos hs
        | some n =>
          have hp : pinned = true := by
            cases hp : pinned with
            | true => rfl
            | false => rw [hclient hp] at hns; cases hns
          refine ⟨hp, ?_, n, rfl, hsup hp n hns⟩
          have := hstream (by rw [hns]; rfl)
          cases v with
          | source => exact hv
          | solid => exact absurd hv this

/-- Merged fields are fields of the entry's kind still. -/
theorem StagedFacts.merge {w h leaseMax : Nat} {r : Region} {kind : EntryKind} {old new : StagedFields}
    (hold : StagedFacts w h leaseMax r kind old)
    (hnew : AmendFacts w h leaseMax r.pinned (old.fill.or (heldFill kind r)) new)
    (hheld : old.fill = none → (heldFill kind r).isSome = true) : StagedFacts w h leaseMax r kind (old.merge kind new) where
  rect q hq := by
    cases hn : new.rect with
    | none => rw [StagedFields.merge, hn] at hq; exact hold.rect q hq
    | some q' => rw [StagedFields.merge, hn] at hq; exact hnew.rect q (hn.trans hq)
  client ho := by
    obtain ⟨hlayer, hlease, hrank⟩ := hold.client ho
    obtain ⟨hlayer', hlease', -⟩ := hnew.client (by simpa [Region.pinned] using ho)
    refine ⟨fun l hl => ?_, fun l hl => ?_, hrank⟩
    · cases hn : new.layer with
      | none => rw [StagedFields.merge, hn] at hl; exact hlayer l hl
      | some l' => rw [StagedFields.merge, hn] at hl; exact hlayer' l (hn.trans hl)
    · cases hn : new.lease with
      | none => rw [StagedFields.merge, hn] at hl; exact hlease l hl
      | some l' => rw [StagedFields.merge, hn] at hl; exact hlease' l (hn.trans hl)
  sup ho := by
    obtain ⟨hlayer, hlease, hfallback, hrank, hrank'⟩ := hold.sup ho
    obtain ⟨hlayer', hlease', hfallback', -⟩ := hnew.sup (by simpa [Region.pinned] using ho)
    refine ⟨?_, ?_, ?_, hrank, hrank'⟩
    · simp [StagedFields.merge, hlayer, hlayer']
    · simp [StagedFields.merge, hlease, hlease']
    · simp [StagedFields.merge, hfallback, hfallback']
  fill := merge_fillFits hold.fill hnew hheld
  whole hk := by
    obtain ⟨hrect, hfill⟩ := hold.whole hk
    exact ⟨by simp [StagedFields.merge, Option.isSome_or, hrect], by simp [StagedFields.merge, Option.isSome_or, hfill]⟩
  new hk := by
    obtain ⟨hlayer, hlease, hfallback⟩ := hold.new hk
    refine ⟨by simp [StagedFields.merge, Option.isSome_or, hlayer], by simp [StagedFields.merge, Option.isSome_or, hlease], ?_⟩
    simp only [StagedFields.merge, hk]
    cases new.fallback with
    | untouched => exact hfallback
    | set c => nofun
    | remove => nofun

/-- Empty fields are an AMEND's over any region. -/
theorem StagedFacts.empty (w h leaseMax : Nat) (r : Region) : StagedFacts w h leaseMax r .amend StagedFields.empty where
  rect := nofun
  client _ := ⟨nofun, nofun, rfl⟩
  sup _ := ⟨rfl, rfl, rfl, fun _ => rfl, nofun⟩
  fill := rfl
  whole hk := absurd rfl hk
  new := nofun

end Sys2Proof.Machine
end

section
/-! PROOFS. Regions with their fields, ranks of their own and claims that do not meet, fact by fact (`RegionFacts`), and the effects
that keep them because no region gains a rank or a claim (R2, R4, R16 to R18). -/

namespace Sys2Proof.Machine

set_option Elab.async false

/-! ### The facts -/

/-- The conjuncts of `State.RegionsLegal` by name, for any two slots. -/
structure State.RegionFacts (s : State) : Prop where
  shapely : ∀ (k : Slot) (r : Region), s.table[k] = some r → r.shapely s = true
  entries : ∀ e ∈ s.pool, ∀ r, s.table[e.slot] = some r → e.shapely s r = true
  pinned : s.pinnedCount ≤ 8
  ranks : ∀ (j k : Slot) (q r : Region), s.table[j] = some q → s.table[k] = some r → j ≠ k → q.owner = .sup → r.owner = .sup →
    s.rankOf j q ≠ s.rankOf k r
  claims : ∀ (j k : Slot) (q r : Region), s.table[j] = some q → s.table[k] = some r → j ≠ k → s.claimsMeet j k q r = false

theorem Rect.overlaps_comm (a b : Rect) : a.overlaps b = b.overlaps a := by
  unfold Rect.overlaps
  rw [Bool.eq_iff_iff]
  simp only [Bool.and_eq_true, decide_eq_true_iff]
  tauto

/-- Two claims meet: both regions reserve, on one layer, and their rectangles overlap (R16). -/
theorem State.claimsMeet_iff {s : State} {j k : Slot} {q r : Region} :
    s.claimsMeet j k q r = true ↔
      q.reserves = true ∧ r.reserves = true ∧ s.prospectiveLayer j q = s.prospectiveLayer k r
        ∧ ∃ a b, s.prospectiveRect j q = some a ∧ s.prospectiveRect k r = some b ∧ a.overlaps b = true := by
  unfold State.claimsMeet
  rw [Bool.and_eq_true, Bool.and_eq_true, Bool.and_eq_true, decide_eq_true_iff, and_assoc, and_assoc]
  refine and_congr_right fun _ => and_congr_right fun _ => and_congr_right fun _ => ?_
  cases s.prospectiveRect j q <;> cases s.prospectiveRect k r <;> simp

theorem State.claimsMeet_comm (s : State) (j k : Slot) (q r : Region) : s.claimsMeet j k q r = s.claimsMeet k j r q := by
  rw [Bool.eq_iff_iff, State.claimsMeet_iff, State.claimsMeet_iff]
  constructor
  · rintro ⟨hq, hr, hl, a, b, ha, hb, hab⟩
    exact ⟨hr, hq, hl.symm, b, a, hb, ha, Rect.overlaps_comm a b ▸ hab⟩
  · rintro ⟨hr, hq, hl, b, a, hb, ha, hab⟩
    exact ⟨hq, hr, hl.symm, a, b, ha, hb, Rect.overlaps_comm b a ▸ hab⟩

theorem Region.pinned_iff {r : Region} : r.pinned = true ↔ r.owner = .sup := by simp [Region.pinned]

theorem State.regionsLegal_iff {s : State} : s.RegionsLegal ↔ s.RegionFacts := by
  constructor
  · rintro ⟨hshapely, hentries, hpinned, hpairs⟩
    refine ⟨hshapely, hentries, hpinned, fun j k q r hq hr hne ho ho' => ?_, fun j k q r hq hr hne => ?_⟩
    · obtain hlt | hlt := lt_or_gt_of_ne hne
      · exact (hpairs j k hlt q hq r hr).1 (Region.pinned_iff.mpr ho) (Region.pinned_iff.mpr ho')
      · exact ((hpairs k j hlt r hr q hq).1 (Region.pinned_iff.mpr ho') (Region.pinned_iff.mpr ho)).symm
    · obtain hlt | hlt := lt_or_gt_of_ne hne
      · exact (hpairs j k hlt q hq r hr).2
      · rw [State.claimsMeet_comm]
        exact (hpairs k j hlt r hr q hq).2
  · rintro ⟨hshapely, hentries, hpinned, hranks, hclaims⟩
    exact ⟨hshapely, hentries, hpinned, fun j k hlt q hq r hr =>
      ⟨fun ho ho' => hranks j k q r hq hr hlt.ne (Region.pinned_iff.mp ho) (Region.pinned_iff.mp ho'),
        hclaims j k q r hq hr hlt.ne⟩⟩

/-! ### Counting slots -/

theorem slots_filter_length_le {p q : Slot → Bool} (h : ∀ k, p k = true → q k = true) :
    (slots.filter p).length ≤ (slots.filter q).length := (List.monotone_filter_right slots h).length_le

/-- One slot more counts at most one more. -/
theorem slots_filter_length_le_succ {p q : Slot → Bool} {j : Slot} (h : ∀ k, p k = true → k = j ∨ q k = true) :
    (slots.filter p).length ≤ (slots.filter q).length + 1 := by
  have hone : (slots.filter (fun k => k == j)).length = 1 := by
    rw [← List.countP_eq_length_filter]
    exact List.count_eq_one_of_mem (List.nodup_finRange 64) (List.mem_finRange j)
  have hor (l : List Slot) :
      (l.filter (fun k => q k || k == j)).length ≤ (l.filter q).length + (l.filter (fun k => k == j)).length := by
    induction l with
    | nil => exact le_rfl
    | cons k l ih =>
      simp only [List.filter_cons]
      cases q k <;> cases hk : k == j <;> simp at ih ⊢ <;> omega
  have hle := slots_filter_length_le (p := p) (q := fun k => q k || k == j)
    (fun k hk => by simpa [or_comm] using h k hk)
  have := hor slots
  omega

theorem State.pinnedCount_eq (s : State) :
    s.pinnedCount = (slots.filter (fun k => s.table[k].any Region.pinned)).length := rfl

/-! ### Changes that add no rank and no claim -/

/-- A state whose pinned regions and reservations were there before, with their ranks, layers and rectangles. -/
theorem State.RegionFacts.of_fewer {s t : State} (hs : s.RegionFacts)
    (hshapely : ∀ (k : Slot) (r : Region), t.table[k] = some r → r.shapely t = true)
    (hentries : ∀ e ∈ t.pool, ∀ r, t.table[e.slot] = some r → e.shapely t r = true)
    (hpinned : ∀ (k : Slot) (r : Region), t.table[k] = some r → r.owner = .sup →
      ∃ q, s.table[k] = some q ∧ q.owner = .sup ∧ t.rankOf k r = s.rankOf k q)
    (hreserves : ∀ (k : Slot) (r : Region), t.table[k] = some r → r.reserves = true →
      ∃ q, s.table[k] = some q ∧ q.reserves = true ∧ t.prospectiveLayer k r = s.prospectiveLayer k q
        ∧ t.prospectiveRect k r = s.prospectiveRect k q) : t.RegionFacts where
  shapely := hshapely
  entries := hentries
  pinned := by
    refine le_trans ?_ hs.pinned
    rw [State.pinnedCount_eq, State.pinnedCount_eq]
    refine slots_filter_length_le fun k hk => ?_
    obtain ⟨r, hr, ho⟩ := (Option.any_eq_true _ _).mp hk
    obtain ⟨q, hq, hqo, -⟩ := hpinned k r hr (Region.pinned_iff.mp ho)
    exact (Option.any_eq_true _ _).mpr ⟨q, hq, Region.pinned_iff.mpr hqo⟩
  ranks j k q r hq hr hne ho ho' := by
    obtain ⟨q', hq', hqo, hqr⟩ := hpinned j q hq ho
    obtain ⟨r', hr', hro, hrr⟩ := hpinned k r hr ho'
    rw [hqr, hrr]
    exact hs.ranks j k q' r' hq' hr' hne hqo hro
  claims j k q r hq hr hne := by
    rw [← Bool.not_eq_true, State.claimsMeet_iff]
    rintro ⟨hqv, hrv, hlayer, a, b, ha, hb, hab⟩
    obtain ⟨q', hq', hqv', hql, hqr⟩ := hreserves j q hq hqv
    obtain ⟨r', hr', hrv', hrl, hrr⟩ := hreserves k r hr hrv
    have hno := hs.claims j k q' r' hq' hr' hne
    rw [← Bool.not_eq_true, State.claimsMeet_iff] at hno
    exact hno ⟨hqv', hrv', hql.symm.trans (hlayer.trans hrl), a, b, hqr.symm.trans ha, hrr.symm.trans hb, hab⟩

/-- What the slot's entry adds to a region's rank, layer and rectangle depends on the entry alone. -/
theorem State.prospective_congr {s t : State} {k : Slot} (h : t.entryFor k = s.entryFor k) {q r : Region}
    (hrank : r.rank = q.rank) (hlayer : r.layer = q.layer) (hrect : r.rect = q.rect) :
    t.rankOf k r = s.rankOf k q ∧ t.prospectiveLayer k r = s.prospectiveLayer k q
      ∧ t.prospectiveRect k r = s.prospectiveRect k q := by
  unfold State.rankOf State.prospectiveLayer State.prospectiveRect
  rw [h, hrank, hlayer, hrect]
  exact ⟨rfl, rfl, rfl⟩

/-- An entry without fields leaves the region's own. -/
theorem State.prospective_of_plain {s : State} {k : Slot} (h : ∀ e, s.entryFor k = some e → e.fields = StagedFields.empty)
    (r : Region) :
    s.rankOf k r = r.rank ∧ s.prospectiveLayer k r = r.layer ∧ s.prospectiveRect k r = r.rect := by
  unfold State.rankOf State.prospectiveLayer State.prospectiveRect
  cases he : s.entryFor k with
  | none => exact ⟨rfl, rfl, rfl⟩
  | some e =>
    simp only [Option.bind_some, h e he]
    exact ⟨rfl, rfl, rfl⟩

/-- A change of nothing the facts read, over sessions whose lease maxima stand for owners. -/
theorem State.RegionFacts.of_eq {s t : State} (hs : s.RegionFacts) (htable : t.table = s.table) (hpool : t.pool = s.pool)
    (hpanel : t.scan.width = s.scan.width ∧ t.scan.height = s.scan.height)
    (hlease : ∀ (k : Slot) (r : Region), s.table[k] = some r → t.leaseMaxOf r.owner = s.leaseMaxOf r.owner) :
    t.RegionFacts := by
  have hentry (k : Slot) : t.entryFor k = s.entryFor k := by rw [State.entryFor_eq, hpool]; rfl
  have hsame (k : Slot) (r : Region) := State.prospective_congr (hentry k) (q := r) (r := r) rfl rfl rfl
  refine hs.of_fewer (fun k r hr => ?_) (fun e he r hr => ?_) (fun k r hr ho => ?_) (fun k r hr hv => ?_)
  · rw [htable] at hr
    rw [Region.shapely_congr hpanel.1 hpanel.2 (hlease k r hr)]
    exact hs.shapely k r hr
  · rw [htable] at hr
    rw [hpool] at he
    rw [PoolEntry.shapely_congr hpanel.1 hpanel.2 rfl rfl (hlease e.slot r hr)]
    exact hs.entries e he r hr
  · rw [htable] at hr
    exact ⟨r, hr, ho, (hsame k r).1⟩
  · rw [htable] at hr
    exact ⟨r, hr, hv, (hsame k r).2⟩

theorem Region.reserves_iff {r : Region} : r.reserves = true ↔ r.owner ≠ .sup ∧ r.state ≠ .retiring := by
  simp [Region.reserves, Region.pinned]

theorem Region.retire_reserves (r : Region) : r.retire.reserves = false := by simp [Region.reserves, Region.retire]

/-- Where every slot is FREE there is nothing to hold. -/
theorem State.RegionFacts.of_empty {s : State} (htable : ∀ k : Slot, s.table[k] = none) : s.RegionFacts where
  shapely k r hr := by rw [htable] at hr; cases hr
  entries e _ r hr := by rw [htable] at hr; cases hr
  pinned := by
    have hnone : ∀ k : Slot, s.table[k].any Region.pinned = false := fun k => by rw [htable]; rfl
    rw [State.pinnedCount_eq]
    simp only [hnone, List.filter_false, List.length_nil]
    exact Nat.zero_le _
  ranks j k q r hq := by rw [htable] at hq; cases hq
  claims j k q r hq := by rw [htable] at hq; cases hq

namespace State.RegionFacts

variable {s : State} (hs : s.RegionFacts) (ht : s.TableFacts)
include hs

/-! ### Renewals, revivals and removals -/

theorem renew {k : Slot} {r : Region} (hr : s.table[k] = some r) (hst : r.state = .live) (ho : r.owner ≠ .sup) :
    (s.putRegion k r.renew).RegionFacts := by
  have htable (j : Slot) : (s.putRegion k r.renew).table[j] = if k = j then some r.renew else s.table[j] :=
    getElem_set_slot _ _ _ _
  have hregion {j : Slot} {q : Region} (hq : (s.putRegion k r.renew).table[j] = some q) :
      (k = j ∧ q = r.renew) ∨ s.table[j] = some q := by
    rw [htable] at hq
    split at hq
    · exact .inl ⟨‹_›, (Option.some.inj hq).symm⟩
    · exact .inr hq
  have hrenew : r.renew.shapely (s.putRegion k r.renew) = true := by
    obtain ⟨hactive, hremaining, hgrace, hfilled, hfallback⟩ := (Region.shapely_of_live hst).mp (hs.shapely k r hr)
    refine (Region.shapely_of_live (show r.renew.state = .live from hst)).mpr
        ⟨hactive.of_fields rfl rfl rfl rfl rfl rfl rfl rfl rfl (fun h => absurd h ho),
      Region.remainingFits_iff.mpr fun _ => ?_, hgrace, hfilled, hfallback⟩
    obtain ⟨-, -, l, hl, h1, -⟩ := hactive.client ho
    exact ⟨l, l, hl, hl, h1, le_rfl⟩
  refine hs.of_fewer (fun j q hq => ?_) (fun e he q hq => ?_) (fun j q hq hqo => ?_) (fun j q hq hv => ?_)
  · obtain ⟨-, rfl⟩ | hq := hregion hq
    · exact hrenew
    · exact hs.shapely j q hq
  · obtain ⟨rfl, rfl⟩ | hq := hregion hq
    · exact (PoolEntry.shapely_congr rfl rfl rfl rfl rfl).trans (hs.entries e he r hr)
    · exact hs.entries e he q hq
  · obtain ⟨rfl, rfl⟩ | hq := hregion hq
    · exact absurd hqo ho
    · exact ⟨q, hq, hqo, rfl⟩
  · obtain ⟨rfl, rfl⟩ | hq := hregion hq
    · exact ⟨r, hr, hv, rfl, rfl⟩
    · exact ⟨q, hq, hv, rfl, rfl⟩

theorem revive {k : Slot} (hnone : s.entryFor k = none) : (s.stage (reviveEntry k)).RegionFacts := by
  have hentry (j : Slot) : (s.stage (reviveEntry k)).entryFor j =
      (s.entryFor j).or (if k = j then some (reviveEntry k) else none) := s.entryFor_stage _ j
  have hsame (j : Slot) (r : Region) :
      (s.stage (reviveEntry k)).rankOf j r = s.rankOf j r
        ∧ (s.stage (reviveEntry k)).prospectiveLayer j r = s.prospectiveLayer j r
        ∧ (s.stage (reviveEntry k)).prospectiveRect j r = s.prospectiveRect j r := by
    by_cases hj : k = j
    · subst hj
      have hplain : ∀ e, (s.stage (reviveEntry k)).entryFor k = some e → e.fields = StagedFields.empty := by
        intro e he
        rw [hentry, hnone, Option.none_or, if_pos rfl] at he
        cases he
        rfl
      obtain ⟨h1, h2, h3⟩ := State.prospective_of_plain hplain r
      obtain ⟨h1', h2', h3'⟩ := State.prospective_of_plain (s := s) (k := k) (by rw [hnone]; nofun) r
      exact ⟨h1.trans h1'.symm, h2.trans h2'.symm, h3.trans h3'.symm⟩
    · refine State.prospective_congr ?_ rfl rfl rfl
      rw [hentry, if_neg hj, Option.or_none]
  refine hs.of_fewer hs.shapely (fun e he r hr => ?_) (fun j r hr ho => ⟨r, hr, ho, (hsame j r).1⟩)
    (fun j r hr hv => ⟨r, hr, hv, (hsame j r).2⟩)
  obtain he | he := List.mem_append.mp he
  · exact hs.entries e he r hr
  · obtain rfl := List.mem_singleton.mp he
    exact (PoolEntry.shapely_removal (.inl rfl)).mpr rfl

/-- A LIVE or LAPSED region made RETIRING keeps its fields. -/
theorem retire_shapely {t : State} {k : Slot} {r : Region} (hr : s.table[k] = some r) (hst : r.state = .live ∨ r.state = .lapsed)
    (hw : t.scan.width = s.scan.width) (hh : t.scan.height = s.scan.height)
    (hl : t.leaseMaxOf r.owner = s.leaseMaxOf r.owner) : r.retire.shapely t = true := by
  have hshapely := hs.shapely k r hr
  refine (Region.shapely_of_retiring rfl).mpr ?_
  obtain hst | hst := hst
  · obtain ⟨hactive, hremaining, -, hfilled, hfallback⟩ := (Region.shapely_of_live hst).mp hshapely
    refine ⟨?_, ?_, rfl, hfilled, hfallback⟩
    · show ActiveFacts t.scan.width t.scan.height (t.leaseMaxOf r.owner) r.retire
      rw [hw, hh, hl]
      exact hactive.of_fields rfl rfl rfl rfl rfl rfl rfl rfl rfl (fun _ => rfl)
    · rw [Region.remainingFits_iff] at hremaining ⊢
      intro ho
      obtain ⟨m, l, hm, hl, -, hml⟩ := hremaining ho
      exact ⟨m, l, hm, hl, Nat.zero_le _, hml⟩
  · obtain ⟨hactive, hclient, hremaining, -, hhidden⟩ := (Region.shapely_of_lapsed hst).mp hshapely
    refine ⟨?_, ?_, rfl, fun h => absurd h hclient, fun h => ?_⟩
    · show ActiveFacts t.scan.width t.scan.height (t.leaseMaxOf r.owner) r.retire
      rw [hw, hh, hl]
      exact hactive.of_fields rfl rfl rfl rfl rfl rfl rfl rfl rfl (fun _ => rfl)
    · rw [Region.remainingFits_iff]
      intro ho
      obtain ⟨-, -, l, hl, -⟩ := hactive.client hclient
      exact ⟨0, l, hremaining, hl, le_rfl, Nat.zero_le _⟩
    · rw [show r.retire.presentation = r.presentation from rfl, hhidden] at h
      cases h

include ht

/-- The entry of a pinned region that is LIVE names no rank of its own (R56). -/
theorem rank_of_live {k : Slot} {r : Region} (hr : s.table[k] = some r) (hst : r.state = .live) (ho : r.owner = .sup) :
    s.rankOf k r = r.rank := by
  unfold State.rankOf
  cases he : s.entryFor k with
  | none => rfl
  | some e =>
    obtain ⟨hmem, rfl⟩ := mem_of_entryIn he
    have hadmits := ht.admits_of_entryFor he hr
    obtain ⟨hnew, hpin, hamend, hrevive, hrelease, hunpin⟩ := Region.admits_pinned hadmits
    rw [hst] at hnew hpin hrevive hrelease hunpin
    have hkind : e.kind = .amend := by
      cases hk : e.kind with
      | new => exact absurd (hnew hk).1 nofun
      | pin => exact absurd (hpin hk).1 nofun
      | amend => rfl
      | revive => exact absurd (hrevive hk).1 nofun
      | release => exact absurd (hrelease hk).1 nofun
      | unpin => exact absurd (hunpin hk).1 nofun
    have hfields := PoolEntry.staged_of_shapely (hs.entries e hmem r hr) hadmits (.inr (.inr hkind))
    obtain ⟨-, -, -, hrank, -⟩ := hfields.sup ho
    rw [Option.bind_some, hrank hkind, Option.none_or]

theorem stageRemoval {k : Slot} {r : Region} {kind : EntryKind} (hr : s.table[k] = some r)
    (hst : r.state = .live ∨ r.state = .lapsed) (hkind : kind = if r.owner = .sup then .unpin else .release)
    (hroom : s.entryFor k = none → s.poolFull = false) : (s.stageRemoval k r kind).RegionFacts := by
  have htable := fun j => s.stageRemoval_table k j r kind
  obtain ⟨hmem, -, -, -, hother⟩ := ht.stageRemoval_pool (k := k) (kind := kind) r hroom
  have hsessions := s.stageRemoval_sessions k r kind
  have hscan : (s.stageRemoval k r kind).scan = s.scan := by unfold State.stageRemoval; split <;> rfl
  have hplain : ∀ e ∈ (s.stageRemoval k r kind).pool, e.slot = k → e.fields = StagedFields.empty := by
    intro e he hk
    unfold State.stageRemoval at he
    cases hentry : s.entryFor k with
    | none =>
      rw [hentry] at he
      obtain he | he := List.mem_append.mp (show e ∈ s.pool ++ [_] from he)
      · exact absurd hk (entryIn_eq_none.mp hentry e he)
      · obtain rfl := List.mem_singleton.mp he
        rfl
    | some f =>
      rw [hentry] at he
      obtain ⟨g, -, rfl⟩ := List.mem_map.mp (show e ∈ s.pool.map _ from he)
      by_cases hg : g.slot = k
      · rw [if_pos hg]
        rfl
      · rw [if_neg hg] at hk
        exact absurd hk hg
  generalize s.stageRemoval k r kind = t at *
  have hw : t.scan.width = s.scan.width := by rw [hscan]
  have hh : t.scan.height = s.scan.height := by rw [hscan]
  have hlease (x : Session) : t.leaseMaxOf x = s.leaseMaxOf x := by rw [State.leaseMaxOf, hsessions]; rfl
  have hregion {j : Slot} {q : Region} (hq : t.table[j] = some q) : (k = j ∧ q = r.retire) ∨ (k ≠ j ∧ s.table[j] = some q) := by
    rw [htable] at hq
    split at hq
    · exact .inl ⟨‹_›, (Option.some.inj hq).symm⟩
    · exact .inr ⟨‹_›, hq⟩
  refine hs.of_fewer (fun j q hq => ?_) (fun e he q hq => ?_) (fun j q hq ho => ?_) (fun j q hq hv => ?_)
  · obtain ⟨-, rfl⟩ | ⟨-, hq⟩ := hregion hq
    · exact hs.retire_shapely hr hst hw hh (hlease _)
    · rw [Region.shapely_congr hw hh (hlease _)]
      exact hs.shapely j q hq
  · obtain ⟨hslot, hek⟩ | ⟨hne, he'⟩ := hmem e he
    · have hfields := hplain e he hslot
      obtain ⟨slot, kind', fields⟩ := e
      dsimp only at hek hfields
      rw [hek, hfields]
      refine (PoolEntry.shapely_removal ?_).mpr rfl
      rw [hkind]
      split
      · exact .inr (.inr rfl)
      · exact .inr (.inl rfl)
    · obtain ⟨hk, -⟩ | ⟨-, hq⟩ := hregion hq
      · exact absurd hk.symm hne
      · rw [PoolEntry.shapely_congr hw hh rfl rfl (hlease _)]
        exact hs.entries e he' q hq
  · obtain ⟨rfl, rfl⟩ | ⟨hne, hq⟩ := hregion hq
    · have hlive : r.state = .live := hst.resolve_right fun hlapsed =>
        (State.stagedFits_iff.mp (ht.staged k r hr)).2.2 hlapsed ho
      refine ⟨r, hr, ho, ?_⟩
      rw [hs.rank_of_live ht hr hlive ho]
      exact (State.prospective_of_plain (fun e he => hplain e (mem_of_entryIn he).1 (mem_of_entryIn he).2) _).1
    · exact ⟨q, hq, ho, (State.prospective_congr (hother j (Ne.symm hne)) rfl rfl rfl).1⟩
  · obtain ⟨rfl, rfl⟩ | ⟨hne, hq⟩ := hregion hq
    · rw [Region.retire_reserves] at hv
      cases hv
    · exact ⟨q, hq, hv, (State.prospective_congr (hother j (Ne.symm hne)) rfl rfl rfl).2⟩

omit ht in
theorem freeStaged (k : Slot) (x : Session) : (s.freeStaged k x).RegionFacts := by
  have hregion {j : Slot} {q : Region} (hq : (s.freeStaged k x).table[j] = some q) : j ≠ k ∧ s.table[j] = some q := by
    rw [show (s.freeStaged k x).table[j] = if k = j then none else s.table[j] from getElem_set_slot _ _ _ _] at hq
    split at hq
    · cases hq
    · exact ⟨Ne.symm ‹_›, hq⟩
  have hentry {j : Slot} (hj : j ≠ k) : (s.freeStaged k x).entryFor j = s.entryFor j :=
    (s.entryFor_unstage k j).trans (if_neg hj)
  refine hs.of_fewer (fun j q hq => ?_) (fun e he q hq => ?_) (fun j q hq ho => ?_) (fun j q hq hv => ?_)
  · exact (Region.shapely_congr rfl rfl rfl).trans (hs.shapely j q (hregion hq).2)
  · exact (PoolEntry.shapely_congr rfl rfl rfl rfl rfl).trans (hs.entries e (List.mem_filter.mp he).1 q (hregion hq).2)
  · obtain ⟨hj, hq⟩ := hregion hq
    exact ⟨q, hq, ho, (State.prospective_congr (hentry hj) rfl rfl rfl).1⟩
  · obtain ⟨hj, hq⟩ := hregion hq
    exact ⟨q, hq, hv, (State.prospective_congr (hentry hj) rfl rfl rfl).2⟩

/-! ### Departures (R32) -/

omit ht in
theorem depart (n : Client) : (s.depart (.client n)).RegionFacts := by
  have htable := s.depart_table n
  have hlease (x : Session) : (s.depart (.client n)).leaseMaxOf x = s.leaseMaxOf x := by
    rw [State.leaseMaxOf, State.depart_sessions]
    split <;> rfl
  have hscan : (s.depart (.client n)).scan = s.scan := rfl
  have hpool : (s.depart (.client n)).pool = s.pool.filter (fun e => !s.ownedBy (.client n) e.slot) := rfl
  generalize s.depart (.client n) = t at *
  have hw : t.scan.width = s.scan.width := by rw [hscan]
  have hh : t.scan.height = s.scan.height := by rw [hscan]
  have hentry {k : Slot} {r : Region} (hr : s.table[k] = some r) (ho : r.owner ≠ .client n) : t.entryFor k = s.entryFor k := by
    rw [State.entryFor_eq, hpool]
    refine entryIn_filter_of_keeps (fun e _ he => ?_)
    rw [he, State.ownedBy_of_some hr, decide_eq_false ho]
    rfl
  have hregion {k : Slot} {q : Region} (hq : t.table[k] = some q) := departSlot_eq_some ((htable k).symm.trans hq)
  refine hs.of_fewer (fun k q hq => ?_) (fun e he q hq => ?_) (fun k q hq ho => ?_) (fun k q hq hv => ?_)
  · obtain ⟨r, hr, hqo, -, hother, hown⟩ := hregion hq
    by_cases ho : r.owner = .client n
    · rw [htable, hr] at hq
      unfold departSlot at hq
      rw [Option.bind_some, if_pos ho] at hq
      cases hst : r.state with
      | stagedNew => rw [hst] at hq; cases hq
      | live => rw [hst] at hq; cases hq; exact hs.retire_shapely hr (.inl hst) hw hh (hlease _)
      | lapsed => rw [hst] at hq; cases hq; exact hs.retire_shapely hr (.inr hst) hw hh (hlease _)
      | retiring =>
        rw [hst] at hq
        cases hq
        rw [Region.shapely_congr hw hh (hlease _)]
        exact hs.shapely k _ hr
    · obtain rfl := hother ho
      rw [Region.shapely_congr hw hh (hlease _)]
      exact hs.shapely k q hr
  · rw [hpool] at he
    obtain ⟨he, hkeep⟩ := List.mem_filter.mp he
    obtain ⟨r, hr, -, -, hother, -⟩ := hregion hq
    rw [State.ownedBy_of_some hr, Bool.not_eq_true', decide_eq_false_iff_not] at hkeep
    obtain rfl := hother hkeep
    rw [PoolEntry.shapely_congr hw hh rfl rfl (hlease _)]
    exact hs.entries e he q hr
  · obtain ⟨r, hr, hqo, -, hother, -⟩ := hregion hq
    have hne : r.owner ≠ .client n := by rw [← hqo, ho]; nofun
    obtain rfl := hother hne
    exact ⟨q, hr, ho, (State.prospective_congr (hentry hr hne) rfl rfl rfl).1⟩
  · obtain ⟨r, hr, hqo, -, hother, hown⟩ := hregion hq
    have hne : r.owner ≠ .client n := fun ho => (Region.reserves_iff.mp hv).2 (hown ho).2
    obtain rfl := hother hne
    exact ⟨q, hr, hv, (State.prospective_congr (hentry hr hne) rfl rfl rfl).2⟩

end State.RegionFacts

end Sys2Proof.Machine
end

section
/-! PROOFS. Creations and amendments keep regions with their fields, ranks and claims: the checks of OPEN, PIN and AMEND are what they
need (R51 to R58, R64, R65). -/

namespace Sys2Proof.Machine

set_option Elab.async false

/-! ### What the overlap check and the rank check find -/

theorem State.claimOverlaps_iff {s : State} {self : Option Slot} {rect : Rect} {layer : Nat} :
    s.claimOverlaps self rect layer = true ↔
      ∃ k r, s.table[k] = some r ∧ self ≠ some k ∧ r.reserves = true ∧ s.prospectiveLayer k r = some layer
        ∧ ∃ q, s.prospectiveRect k r = some q ∧ rect.overlaps q = true := by
  unfold State.claimOverlaps
  rw [List.any_eq_true]
  constructor
  · rintro ⟨k, -, hk⟩
    rw [Bool.and_eq_true, decide_eq_true_iff] at hk
    obtain ⟨hself, hk⟩ := hk
    cases hr : s.table[k] with
    | none => rw [hr] at hk; cases hk
    | some r =>
      rw [hr] at hk
      simp only [Bool.and_eq_true, decide_eq_true_iff] at hk
      obtain ⟨⟨hv, hl⟩, hq⟩ := hk
      cases hp : s.prospectiveRect k r with
      | none => rw [hp] at hq; cases hq
      | some q => rw [hp] at hq; exact ⟨k, r, hr, hself, hv, hl, q, hp, hq⟩
  · rintro ⟨k, r, hr, hself, hv, hl, q, hp, hq⟩
    refine ⟨k, List.mem_finRange k, ?_⟩
    rw [Bool.and_eq_true, decide_eq_true_iff]
    refine ⟨hself, ?_⟩
    simp only [hr, hv, hl, hp, hq, decide_true, Bool.and_self]

theorem State.rankHeld_iff {s : State} {rank : Nat} :
    s.rankHeld rank = true ↔ ∃ k r, s.table[k] = some r ∧ r.owner = .sup ∧ s.rankOf k r = some rank := by
  unfold State.rankHeld
  simp only [List.any_eq_true, Option.any_eq_true, Bool.and_eq_true, decide_eq_true_iff, Region.pinned_iff, slots,
    List.mem_finRange, true_and]
  exact Iff.rfl

/-! ### The fields of a new region's entry -/

theorem openFields_facts {b : FieldBlock} {leaseMax w h : Nat} {r : Region} (hvalid : openValid b = true) (hmax : 1 ≤ leaseMax)
    (hrect : (blockRect b).within w h = true) (ho : r.owner ≠ .sup) :
    StagedFacts w h leaseMax r .new (openFields b (grantedLease b.lease leaseMax)) := by
  have hp : r.pinned = false := by simpa [Region.pinned] using ho
  simp only [openValid, Bool.and_eq_true, decide_eq_true_iff] at hvalid
  obtain ⟨⟨⟨⟨-, hlayer⟩, hlease⟩, -⟩, hfill⟩ := hvalid
  have hpos : b.lease.toNat ≠ 0 := fun h0 => hlease (BitVec.eq_of_toNat_eq h0)
  refine ⟨fun q hq => Option.some.inj hq ▸ hrect, fun _ => ⟨fun l hl => Option.some.inj hl ▸ hlayer, fun l hl => ?_, rfl⟩,
    fun h => absurd h ho, ?_, fun _ => ⟨rfl, ?_⟩, fun _ => ⟨rfl, rfl, ?_⟩⟩
  · obtain rfl := Option.some.inj hl
    unfold grantedLease
    omega
  · rw [hp, StagedFields.fillFits_iff]
    simp only [openFields, StagedFields.empty, carried_eq_none, carried_isSome]
    obtain ⟨hf, -⟩ | ⟨hf, -⟩ | ⟨hf, -⟩ := fillOf_eq b.fill
    · rw [hf] at hfill ⊢
      exact ⟨fun _ => ⟨by simpa using hfill, nofun, fun _ => trivial⟩, nofun, nofun⟩
    · rw [hf] at hfill ⊢
      exact ⟨nofun, fun _ => ⟨hfill, trivial⟩, nofun⟩
    · rw [hf] at hfill
      cases hfill
  · show (fillOf b.fill).isSome = true
    cases hf : fillOf b.fill with
    | none => rw [hf] at hfill; cases hfill
    | some v => rfl
  · show (if bitSet b 7 then StagedFallback.set b.fallback else .untouched) ≠ .remove
    split <;> nofun

theorem pinFields_facts {b : FieldBlock} {leaseMax w h : Nat} {r : Region} (hvalid : pinValid b = true)
    (hrect : (blockRect b).within w h = true) (ho : r.owner = .sup) :
    StagedFacts w h leaseMax r .pin (pinFields b) := by
  have hp : r.pinned = true := by simpa [Region.pinned] using ho
  simp only [pinValid, Bool.and_eq_true, decide_eq_true_iff] at hvalid
  obtain ⟨⟨⟨⟨⟨⟨-, hrank⟩, -⟩, -⟩, -⟩, -⟩, hfill⟩ := hvalid
  refine ⟨fun q hq => Option.some.inj hq ▸ hrect, fun h => absurd ho h,
    fun _ => ⟨rfl, rfl, rfl, nofun, fun _ => ⟨_, rfl, hrank⟩⟩, ?_, fun _ => ⟨rfl, ?_⟩, nofun⟩
  · rw [hp, StagedFields.fillFits_iff]
    simp only [pinFields, StagedFields.empty, carried_eq_none, carried_isSome, carried_eq_some]
    obtain ⟨hf, -⟩ | ⟨hf, -⟩ | ⟨hf, -⟩ := fillOf_eq b.fill
    · rw [hf] at hfill ⊢
      simp only [Bool.and_eq_true, decide_eq_true_iff, Bool.not_eq_true'] at hfill
      obtain ⟨⟨h5, hstream⟩, h6⟩ := hfill
      exact ⟨fun _ => ⟨h6, fun _ => ⟨_, ⟨h5, rfl⟩, hstream⟩, nofun⟩, nofun, nofun⟩
    · rw [hf] at hfill ⊢
      simp only [Bool.and_eq_true, Bool.not_eq_true'] at hfill
      exact ⟨nofun, fun _ => hfill, nofun⟩
    · rw [hf] at hfill
      cases hfill
  · show (fillOf b.fill).isSome = true
    cases hf : fillOf b.fill with
    | none => rw [hf] at hfill; cases hfill
    | some v => rfl

namespace State.RegionFacts

variable {s : State} (hs : s.RegionFacts) (ht : s.TableFacts)
include hs ht

/-! ### A region created (R17, R53, R65) -/

theorem createRegion {k : Slot} {x : Session} {tag : Word16} {kind : EntryKind} {fields : StagedFields}
    (hfree : s.table[k] = none) (hkind : kind = if x = .sup then .pin else .new)
    (hfields : StagedFacts s.scan.width s.scan.height (s.leaseMaxOf x) (newRegion x tag) kind fields)
    (hcount : x = .sup → s.pinnedCount < 8)
    (hrank : ∀ q, x = .sup → fields.rank = some q → s.rankHeld q = false)
    (hclaim : x ≠ .sup → ∀ q l, fields.rect = some q → fields.layer = some l → s.claimOverlaps none q l = false) :
    (s.createRegion k x tag kind fields).RegionFacts := by
  have htable (j : Slot) : (s.createRegion k x tag kind fields).table[j] =
      if k = j then some (newRegion x tag) else s.table[j] := getElem_set_slot _ _ _ _
  have hentryAt (j : Slot) : (s.createRegion k x tag kind fields).entryFor j =
      (s.entryFor j).or (if k = j then some ⟨k, kind, fields⟩ else none) := entryIn_append s.pool _ j
  have hpool : (s.createRegion k x tag kind fields).pool = s.pool ++ [⟨k, kind, fields⟩] := rfl
  have hw : (s.createRegion k x tag kind fields).scan.width = s.scan.width := rfl
  have hh : (s.createRegion k x tag kind fields).scan.height = s.scan.height := rfl
  have hlease (y : Session) : (s.createRegion k x tag kind fields).leaseMaxOf y = s.leaseMaxOf y := rfl
  generalize s.createRegion k x tag kind fields = t at *
  have hregion {j : Slot} {q : Region} (hq : t.table[j] = some q) : (k = j ∧ q = newRegion x tag) ∨ (k ≠ j ∧ s.table[j] = some q) := by
    rw [htable] at hq
    split at hq
    · exact .inl ⟨‹_›, (Option.some.inj hq).symm⟩
    · exact .inr ⟨‹_›, hq⟩
  have hentry : t.entryFor k = some ⟨k, kind, fields⟩ := by
    rw [hentryAt, ht.entryFor_of_free hfree, if_pos rfl, Option.none_or]
  have hold {j : Slot} (hj : k ≠ j) (q : Region) := State.prospective_congr (s := s) (t := t) (k := j) (q := q) (r := q)
    (by rw [hentryAt, if_neg hj, Option.or_none]) rfl rfl rfl
  have hnewRank : t.rankOf k (newRegion x tag) = fields.rank := by
    simp [State.rankOf, hentry, newRegion]
  have hnewLayer : t.prospectiveLayer k (newRegion x tag) = fields.layer := by
    simp [State.prospectiveLayer, hentry, newRegion]
  have hnewRect : t.prospectiveRect k (newRegion x tag) = fields.rect := by
    simp [State.prospectiveRect, hentry, newRegion]
  have hadmits : (newRegion x tag).admits kind = true := by
    rw [hkind]
    by_cases hx : x = .sup <;> simp [Region.admits, Region.pinned, newRegion, hx]
  have hkinds : kind = .new ∨ kind = .pin ∨ kind = .amend := by
    rw [hkind]
    split
    · exact .inr (.inl rfl)
    · exact .inl rfl
  have hranks {j : Slot} {q : Region} (hj : k ≠ j) (hq : s.table[j] = some q) (hx : x = .sup) (hqo : q.owner = .sup) :
      t.rankOf k (newRegion x tag) ≠ t.rankOf j q := by
    rw [hnewRank, (hold hj q).1]
    obtain ⟨-, -, -, -, hpin⟩ := hfields.sup hx
    obtain ⟨n, hn, -⟩ := hpin (by rw [hkind, if_pos hx])
    have hno := hrank n hx hn
    rw [← Bool.not_eq_true, State.rankHeld_iff] at hno
    exact fun heq => hno ⟨j, q, hq, hqo, heq.symm.trans hn⟩
  have hclaims {j : Slot} {q : Region} (hj : k ≠ j) (hq : s.table[j] = some q) :
      t.claimsMeet k j (newRegion x tag) q = false := by
    rw [← Bool.not_eq_true, State.claimsMeet_iff]
    rintro ⟨hv, hqv, hlayer, a, b, ha, hb, hab⟩
    have hx : x ≠ .sup := (Region.reserves_iff.mp hv).1
    obtain ⟨l, hl⟩ := Option.isSome_iff_exists.mp (hfields.new (by rw [hkind, if_neg hx])).1
    rw [hnewLayer, hl, (hold hj q).2.1] at hlayer
    rw [hnewRect] at ha
    rw [(hold hj q).2.2] at hb
    have hno := hclaim hx a l ha hl
    rw [← Bool.not_eq_true, State.claimOverlaps_iff] at hno
    exact hno ⟨j, q, hq, nofun, hqv, hlayer.symm, b, hb, hab⟩
  exact
    { shapely := by
        intro j q hq
        obtain ⟨-, rfl⟩ | ⟨-, hq⟩ := hregion hq
        · exact (Region.shapely_of_stagedNew rfl).mpr rfl
        · rw [Region.shapely_congr hw hh (hlease _)]
          exact hs.shapely j q hq
      entries := by
        intro e he q hq
        rw [hpool] at he
        obtain he | he := List.mem_append.mp he
        · obtain ⟨r, hr, -⟩ := ht.admits e he
          obtain ⟨hk, -⟩ | ⟨-, hq⟩ := hregion hq
          · simp only [← hk, hfree] at hr
            cases hr
          · rw [PoolEntry.shapely_congr hw hh rfl rfl (hlease _)]
            exact hs.entries e he q hq
        · obtain rfl := List.mem_singleton.mp he
          obtain ⟨-, rfl⟩ | ⟨hne, -⟩ := hregion hq
          · refine PoolEntry.shapely_of_staged hadmits hkinds ?_
            rw [hw, hh, hlease]
            exact hfields
          · exact absurd rfl hne
      pinned := by
        rw [State.pinnedCount_eq]
        have hmem {j : Slot} (hj : t.table[j].any Region.pinned = true) :
            (j = k ∧ x = .sup) ∨ s.table[j].any Region.pinned = true := by
          obtain ⟨q, hq, hp⟩ := (Option.any_eq_true _ _).mp hj
          obtain ⟨rfl, rfl⟩ | ⟨-, hq⟩ := hregion hq
          · exact .inl ⟨rfl, Region.pinned_iff.mp hp⟩
          · exact .inr ((Option.any_eq_true _ _).mpr ⟨q, hq, hp⟩)
        by_cases hx : x = .sup
        · have hlt := hcount hx
          rw [State.pinnedCount_eq] at hlt
          have := slots_filter_length_le_succ (j := k) fun j hj => (hmem (j := j) hj).imp And.left id
          omega
        · refine le_trans ?_ hs.pinned
          exact slots_filter_length_le fun j hj => (hmem (j := j) hj).resolve_left (fun h => hx h.2)
      ranks := by
        intro i j q r hq hr hne ho ho'
        obtain ⟨rfl, rfl⟩ | ⟨hi, hq⟩ := hregion hq
        · obtain ⟨rfl, -⟩ | ⟨hj, hr⟩ := hregion hr
          · exact absurd rfl hne
          · exact hranks hj hr ho ho'
        · obtain ⟨rfl, rfl⟩ | ⟨hj, hr⟩ := hregion hr
          · exact (hranks hi hq ho' ho).symm
          · rw [(hold hi q).1, (hold hj r).1]
            exact hs.ranks i j q r hq hr hne ho ho'
      claims := by
        intro i j q r hq hr hne
        obtain ⟨rfl, rfl⟩ | ⟨hi, hq⟩ := hregion hq
        · obtain ⟨rfl, -⟩ | ⟨hj, hr⟩ := hregion hr
          · exact absurd rfl hne
          · exact hclaims hj hr
        · obtain ⟨rfl, rfl⟩ | ⟨hj, hr⟩ := hregion hr
          · rw [State.claimsMeet_comm]
            exact hclaims hi hq
          · have hsame : t.claimsMeet i j q r = s.claimsMeet i j q r := by
              unfold State.claimsMeet
              rw [(hold hi q).2.1, (hold hi q).2.2, (hold hj r).2.1, (hold hj r).2.2]
            rw [hsame]
            exact hs.claims i j q r hq hr hne }

/-! ### An AMEND staged (R55 to R58) -/

/-- A client's reservation is on a layer. -/
theorem prospectiveLayer_isSome {k : Slot} {r : Region} (hr : s.table[k] = some r) (ho : r.owner ≠ .sup)
    (hst : r.state = .stagedNew ∨ r.state = .live) : (s.prospectiveLayer k r).isSome = true := by
  unfold State.prospectiveLayer
  obtain hst | hst := hst
  · obtain ⟨e, he⟩ := Option.isSome_iff_exists.mp ((State.stagedFits_iff.mp (ht.staged k r hr)).1 hst)
    obtain ⟨hmem, rfl⟩ := mem_of_entryIn he
    have hadmits := ht.admits_of_entryFor he hr
    obtain ⟨-, hpin, hamend, hrevive, hrelease, hunpin⟩ := Region.admits_pinned hadmits
    rw [hst] at hamend hrevive hrelease hunpin
    have hkind : e.kind = .new := by
      cases hk : e.kind with
      | new => rfl
      | pin => exact absurd (hpin hk).2 ho
      | amend => exact absurd (hamend hk) nofun
      | revive => exact absurd (hrevive hk).1 nofun
      | release => exact absurd (hrelease hk).1 nofun
      | unpin => exact absurd (hunpin hk).1 nofun
    have hfields := PoolEntry.staged_of_shapely (hs.entries e hmem r hr) hadmits (.inl hkind)
    rw [he, Option.bind_some, Option.isSome_or, (hfields.new hkind).1]
    rfl
  · obtain ⟨hactive, -⟩ := (Region.shapely_of_live hst).mp (hs.shapely k r hr)
    obtain ⟨⟨l, hl, -⟩, -⟩ := hactive.client ho
    rw [Option.isSome_or, hl, Option.isSome_some, Bool.or_true]

end State.RegionFacts

/-- The entry that an AMEND of the slot changes: the slot's, or an AMEND entry without fields. -/
def State.amendedEntry (s : State) (k : Slot) : PoolEntry :=
  (s.entryFor k).getD { slot := k, kind := .amend, fields := StagedFields.empty }

/-- The entry once the fields are merged in. -/
def State.mergedEntry (s : State) (k : Slot) (f : StagedFields) : PoolEntry :=
  { s.amendedEntry k with fields := (s.amendedEntry k).fields.merge (s.amendedEntry k).kind f }

theorem State.amendedEntry_slot (s : State) (k : Slot) : (s.amendedEntry k).slot = k := by
  unfold State.amendedEntry
  cases he : s.entryFor k with
  | none => rfl
  | some e => exact (mem_of_entryIn he).2

theorem State.stageAmend_entryFor (s : State) (k j : Slot) (f : StagedFields) :
    (s.stageAmend k f).entryFor j = if k = j then some (s.mergedEntry k f) else s.entryFor j := by
  unfold State.stageAmend State.mergedEntry State.amendedEntry
  cases he : s.entryFor k with
  | none =>
    refine (s.entryFor_stage _ j).trans ?_
    show (s.entryFor j).or (if k = j then _ else none) = _
    split
    · next h => subst h; rw [he]; rfl
    · exact Option.or_none
  | some e =>
    have hrestage := s.entryFor_restage (j := k) (f := fun e => { e with fields := e.fields.merge e.kind f }) (fun _ => rfl) j
    refine hrestage.trans ?_
    by_cases h : k = j
    · subst h
      rw [if_pos rfl, if_pos rfl, he]
      rfl
    · rw [if_neg (Ne.symm h), if_neg h]

theorem State.stageAmend_mem {s : State} (hp : s.pool.Pairwise (fun a b => a.slot ≠ b.slot)) {k : Slot} {f : StagedFields}
    {e : PoolEntry} (he : e ∈ (s.stageAmend k f).pool) : e = s.mergedEntry k f ∨ (e.slot ≠ k ∧ e ∈ s.pool) := by
  unfold State.mergedEntry State.amendedEntry
  unfold State.stageAmend at he
  cases hk : s.entryFor k with
  | none =>
    rw [hk] at he
    obtain he | he := List.mem_append.mp (show e ∈ s.pool ++ [_] from he)
    · exact .inr ⟨entryIn_eq_none.mp hk e he, he⟩
    · exact .inl (List.mem_singleton.mp he)
  | some g =>
    rw [hk] at he
    obtain ⟨e', he', rfl⟩ := List.mem_map.mp (show e ∈ s.pool.map _ from he)
    by_cases hslot : e'.slot = k
    · have heq := entryIn_of_mem hp he'
      rw [hslot, ← State.entryFor_eq, hk] at heq
      obtain rfl := Option.some.inj heq
      rw [if_pos hslot]
      exact .inl rfl
    · rw [if_neg hslot]
      exact .inr ⟨hslot, he'⟩

/-- What the entry gives, whether it stands or not. -/
theorem State.prospective_amended (s : State) (k : Slot) (r : Region) :
    s.rankOf k r = (s.amendedEntry k).fields.rank.or r.rank
      ∧ s.prospectiveLayer k r = (s.amendedEntry k).fields.layer.or r.layer
      ∧ s.prospectiveRect k r = (s.amendedEntry k).fields.rect.or r.rect
      ∧ s.prospectiveFill k r = (s.amendedEntry k).fields.fill.or r.fill := by
  unfold State.rankOf State.prospectiveLayer State.prospectiveRect State.prospectiveFill State.amendedEntry
  cases s.entryFor k <;> exact ⟨rfl, rfl, rfl, rfl⟩

/-- The merged geometry that R54 and R55 check, and the rank, which an AMEND does not carry. -/
theorem State.prospective_stageAmend (s : State) (k : Slot) (r : Region) (f : StagedFields) :
    (s.stageAmend k f).rankOf k r = s.rankOf k r
      ∧ (s.stageAmend k f).prospectiveLayer k r = f.layer.or (s.prospectiveLayer k r)
      ∧ (s.stageAmend k f).prospectiveRect k r = f.rect.or (s.prospectiveRect k r) := by
  have hentry := s.stageAmend_entryFor k k f
  rw [if_pos rfl] at hentry
  obtain ⟨hrank, hlayer, hrect, -⟩ := s.prospective_amended k r
  rw [hrank, hlayer, hrect]
  simp only [State.rankOf, State.prospectiveLayer, State.prospectiveRect, hentry, Option.bind_some, State.mergedEntry,
    StagedFields.merge, Option.or_assoc]
  exact ⟨trivial, trivial, trivial⟩

namespace State.RegionFacts

variable {s : State} (hs : s.RegionFacts) (ht : s.TableFacts)
include hs ht

/-- The entry that an AMEND changes is one that the region admits, and it carries fields (R43). -/
theorem amendedEntry_facts {k : Slot} {r : Region} (hr : s.table[k] = some r) (hst : r.state = .stagedNew ∨ r.state = .live) :
    let e := s.amendedEntry k
    r.admits e.kind = true ∧ (e.kind = .new ∨ e.kind = .pin ∨ e.kind = .amend)
      ∧ StagedFacts s.scan.width s.scan.height (s.leaseMaxOf r.owner) r e.kind e.fields := by
  unfold State.amendedEntry
  cases he : s.entryFor k with
  | none =>
    have hlive : r.state = .live := hst.resolve_left fun hnew => by
      have hsome := (State.stagedFits_iff.mp (ht.staged k r hr)).1 hnew
      rw [he] at hsome
      cases hsome
    exact ⟨by simp [Region.admits, hlive], .inr (.inr rfl), .empty _ _ _ r⟩
  | some e =>
    obtain ⟨hmem, rfl⟩ := mem_of_entryIn he
    have hadmits := ht.admits_of_entryFor he hr
    obtain ⟨-, -, -, hrevive, hrelease, hunpin⟩ := Region.admits_pinned hadmits
    have hkind : e.kind = .new ∨ e.kind = .pin ∨ e.kind = .amend := by
      cases hk : e.kind with
      | new => exact .inl rfl
      | pin => exact .inr (.inl rfl)
      | amend => exact .inr (.inr rfl)
      | revive => obtain hst | hst := hst <;> rw [hst] at hrevive <;> exact absurd (hrevive hk).1 nofun
      | release => obtain hst | hst := hst <;> rw [hst] at hrelease <;> exact absurd (hrelease hk).1 nofun
      | unpin => obtain hst | hst := hst <;> rw [hst] at hunpin <;> exact absurd (hunpin hk).1 nofun
    exact ⟨hadmits, hkind, PoolEntry.staged_of_shapely (hs.entries e hmem r hr) hadmits hkind⟩

/-- The fields of an AMEND that its checks have passed, merged into the entry (R47, R57). -/
theorem merged_facts {k : Slot} {r : Region} {f : StagedFields} (hr : s.table[k] = some r)
    (hst : r.state = .stagedNew ∨ r.state = .live)
    (hf : AmendFacts s.scan.width s.scan.height (s.leaseMaxOf r.owner) r.pinned (s.prospectiveFill k r) f) :
    (s.mergedEntry k f).shapely s r = true := by
  obtain ⟨hadmits, hkind, hfields⟩ := hs.amendedEntry_facts ht hr hst
  obtain ⟨-, -, -, hfill⟩ := s.prospective_amended k r
  have hheld : (s.amendedEntry k).fields.fill = none → (heldFill (s.amendedEntry k).kind r).isSome = true := by
    intro hnone
    by_cases hk : (s.amendedEntry k).kind = .amend
    · have hlive : r.state = .live := (Region.admits_pinned hadmits).2.2.1 hk
      obtain ⟨hactive, -⟩ := (Region.shapely_of_live hlive).mp (hs.shapely k r hr)
      have hfits := hactive.fill
      rw [heldFill, if_pos hk]
      cases hrf : r.fill with
      | some v => rfl
      | none => simp [Region.fillFits, hrf] at hfits
    · have := (hfields.whole hk).2
      rw [hnone] at this
      cases this
  have hshown : s.prospectiveFill k r = (s.amendedEntry k).fields.fill.or (heldFill (s.amendedEntry k).kind r) := by
    rw [hfill]
    by_cases hk : (s.amendedEntry k).kind = .amend
    · rw [heldFill, if_pos hk]
    · obtain ⟨v, hv⟩ := Option.isSome_iff_exists.mp (hfields.whole hk).2
      rw [hv, Option.some_or, Option.some_or]
  rw [hshown] at hf
  exact PoolEntry.shapely_of_staged hadmits hkind (hfields.merge hf hheld)

theorem stageAmend {k : Slot} {r : Region} {f : StagedFields} (hr : s.table[k] = some r)
    (hst : r.state = .stagedNew ∨ r.state = .live)
    (hf : AmendFacts s.scan.width s.scan.height (s.leaseMaxOf r.owner) r.pinned (s.prospectiveFill k r) f)
    (hclaim : r.owner ≠ .sup → s.amendOverlaps k r f = false) : (s.stageAmend k f).RegionFacts := by
  have hmem {e : PoolEntry} (he : e ∈ (s.stageAmend k f).pool) := State.stageAmend_mem ht.entries he
  have hmerged := hs.merged_facts ht hr hst hf
  have hentry := fun j => s.stageAmend_entryFor k j f
  have hprospective := s.prospective_stageAmend k r f
  have htable : (s.stageAmend k f).table = s.table := by unfold State.stageAmend; split <;> rfl
  have hscan : (s.stageAmend k f).scan = s.scan := by unfold State.stageAmend; split <;> rfl
  have hsessions := s.stageAmend_sessions k f
  have hslot : (s.mergedEntry k f).slot = k := s.amendedEntry_slot k
  generalize s.stageAmend k f = t at *
  obtain ⟨hrank, hlayer, hrect⟩ := hprospective
  have hw : t.scan.width = s.scan.width := by rw [hscan]
  have hh : t.scan.height = s.scan.height := by rw [hscan]
  have hlease (x : Session) : t.leaseMaxOf x = s.leaseMaxOf x := by rw [State.leaseMaxOf, hsessions]; rfl
  have hold {j : Slot} (hj : k ≠ j) (q : Region) := State.prospective_congr (s := s) (t := t) (k := j) (q := q) (r := q)
    (by rw [hentry, if_neg hj]) rfl rfl rfl
  have hsameRank (j : Slot) (q : Region) (hq : s.table[j] = some q) : t.rankOf j q = s.rankOf j q := by
    by_cases hj : k = j
    · subst hj
      obtain rfl := Option.some.inj (hr.symm.trans hq)
      exact hrank
    · exact (hold hj q).1
  have hclaims {j : Slot} {q : Region} (hj : k ≠ j) (hq : s.table[j] = some q) : t.claimsMeet k j r q = false := by
    rw [← Bool.not_eq_true, State.claimsMeet_iff]
    rintro ⟨hv, hqv, hmeet, a, b, ha, hb, hab⟩
    have ho : r.owner ≠ .sup := (Region.reserves_iff.mp hv).1
    rw [hlayer, (hold hj q).2.1] at hmeet
    rw [hrect] at ha
    rw [(hold hj q).2.2] at hb
    have hno := hclaim ho
    unfold State.amendOverlaps at hno
    split at hno
    · next hnone =>
      simp only [Bool.and_eq_true, Option.isNone_iff_eq_none] at hnone
      rw [hnone.2, Option.none_or] at hmeet
      rw [hnone.1, Option.none_or] at ha
      have hs' := hs.claims k j r q hr hq hj
      rw [← Bool.not_eq_true, State.claimsMeet_iff] at hs'
      exact hs' ⟨hv, hqv, hmeet, a, b, ha, hb, hab⟩
    · obtain ⟨l, hl⟩ : ∃ l, f.layer.or (s.prospectiveLayer k r) = some l := by
        rw [← Option.isSome_iff_exists, Option.isSome_or, hs.prospectiveLayer_isSome ht hr ho hst, Bool.or_true]
      rw [hl] at hmeet
      simp only [ha, hl] at hno
      rw [← Bool.not_eq_true, State.claimOverlaps_iff] at hno
      exact hno ⟨j, q, hq, fun h => hj (Option.some.inj h), hqv, hmeet.symm, b, hb, hab⟩
  exact
    { shapely := by
        intro j q hq
        rw [htable] at hq
        rw [Region.shapely_congr hw hh (hlease _)]
        exact hs.shapely j q hq
      entries := by
        intro e he q hq
        rw [htable] at hq
        rw [PoolEntry.shapely_congr hw hh rfl rfl (hlease _)]
        obtain rfl | ⟨-, he⟩ := hmem he
        · simp only [hslot] at hq
          obtain rfl := Option.some.inj (hr.symm.trans hq)
          exact hmerged
        · exact hs.entries e he q hq
      pinned := by
        rw [State.pinnedCount_eq, htable]
        exact hs.pinned
      ranks := by
        intro i j q q' hq hq' hne ho ho'
        rw [htable] at hq hq'
        rw [hsameRank i q hq, hsameRank j q' hq']
        exact hs.ranks i j q q' hq hq' hne ho ho'
      claims := by
        intro i j q q' hq hq' hne
        rw [htable] at hq hq'
        by_cases hi : k = i
        · subst hi
          obtain rfl := Option.some.inj (hr.symm.trans hq)
          exact hclaims hne hq'
        · by_cases hj : k = j
          · subst hj
            obtain rfl := Option.some.inj (hr.symm.trans hq')
            rw [State.claimsMeet_comm]
            exact hclaims hi hq
          · have hsame : t.claimsMeet i j q q' = s.claimsMeet i j q q' := by
              unfold State.claimsMeet
              rw [(hold hi q).2.1, (hold hi q).2.2, (hold hj q').2.1, (hold hj q').2.2]
            rw [hsame]
            exact hs.claims i j q q' hq hq' hne }

end State.RegionFacts

end Sys2Proof.Machine
end

section
/-! PROOFS. Commits, swaps, resets and panels keep regions with their fields, ranks and claims, and so does every effect of a
request. -/

namespace Sys2Proof.Machine

set_option Elab.async false

/-! ### A region once its entry is applied (R72 to R77) -/

/-- The fill, stream and colour of a region, in step (R5). -/
theorem Region.fillFits_iff {r : Region} :
    r.fillFits = true ↔
      (r.fill = some .source ∧ r.colour = none ∧ r.sourceStream r.stream = r.stream
          ∧ (r.owner = .sup → ∃ n, r.stream = some n ∧ n ≤ 3))
        ∨ (r.fill = some .solid ∧ r.stream = none ∧ r.colour.isSome = true) := by
  unfold Region.fillFits Region.sourceStream
  cases hf : r.fill with
  | none => simp
  | some v =>
    cases v with
    | solid => simp
    | source =>
      cases ho : r.owner with
      | sup => simp only [Bool.and_eq_true, Option.any_eq_true, decide_eq_true_iff, Option.isNone_iff_eq_none]; simp; tauto
      | client n => simp only [Bool.and_eq_true, decide_eq_true_iff, Option.isNone_iff_eq_none]; simp; tauto

/-- A region after its entry: its shape, and its rank and geometry, which the entry gave it before (R4). -/
structure SettledFacts (s : State) (k : Slot) (g r : Region) : Prop where
  active : ActiveFacts s.scan.width s.scan.height (s.leaseMaxOf r.owner) r
  live : r.state = .live → r.remainingFits 1 = true ∧ r.graceLeft = none
  lapsed : r.state = .lapsed → r.remaining = some 0 ∧ ∃ n, r.graceLeft = some n ∧ 1 ≤ n ∧ n ≤ 15
  rank : r.owner = .sup → r.rank = s.rankOf k g
  layer : r.layer = s.prospectiveLayer k g
  rect : r.rect = s.prospectiveRect k g

theorem settledFacts_of_none {s : State} {k : Slot} {g : Region} (hentry : s.entryFor k = none) (hshapely : g.shapely s = true)
    (hst : g.state = .live ∨ g.state = .lapsed) : SettledFacts s k g g := by
  obtain ⟨hrank, hlayer, hrect⟩ := State.prospective_of_plain (s := s) (k := k) (by rw [hentry]; nofun) g
  obtain hst | hst := hst
  · obtain ⟨hactive, hremaining, hgrace, -, -⟩ := (Region.shapely_of_live hst).mp hshapely
    exact ⟨hactive, fun _ => ⟨hremaining, hgrace⟩, fun h => (by rw [hst] at h; cases h), fun _ => hrank.symm, hlayer.symm,
      hrect.symm⟩
  · obtain ⟨hactive, -, hremaining, hgrace, -⟩ := (Region.shapely_of_lapsed hst).mp hshapely
    exact ⟨hactive, fun h => (by rw [hst] at h; cases h), fun _ => ⟨hremaining, hgrace⟩, fun _ => hrank.symm, hlayer.symm,
      hrect.symm⟩

section
variable {s : State} {k : Slot} {g : Region} {f : StagedFields}

theorem State.prospective_of_entry {e : PoolEntry} (h : s.entryFor k = some e) (g : Region) :
    s.rankOf k g = e.fields.rank.or g.rank ∧ s.prospectiveLayer k g = e.fields.layer.or g.layer
      ∧ s.prospectiveRect k g = e.fields.rect.or g.rect := by
  simp [State.rankOf, State.prospectiveLayer, State.prospectiveRect, h]

theorem settledFacts_of_new (hentry : s.entryFor k = some ⟨k, .new, f⟩) (hg : g = newRegion g.owner g.tag) (ho : g.owner ≠ .sup)
    (hf : StagedFacts s.scan.width s.scan.height (s.leaseMaxOf g.owner) g .new f) :
    SettledFacts s k g (applyNew f g) := by
  obtain ⟨-, hlayer, hrect⟩ := State.prospective_of_entry hentry g
  obtain ⟨hlayers, hleases, -⟩ := hf.client ho
  obtain ⟨hrs, hfs⟩ := hf.whole nofun
  obtain ⟨hls, hlease, -⟩ := hf.new rfl
  obtain ⟨q, hq⟩ := Option.isSome_iff_exists.mp hrs
  obtain ⟨l, hl⟩ := Option.isSome_iff_exists.mp hls
  obtain ⟨m, hm⟩ := Option.isSome_iff_exists.mp hlease
  obtain ⟨v, hv⟩ := Option.isSome_iff_exists.mp hfs
  have hgl : g.layer = none := by rw [hg]; rfl
  have hgq : g.rect = none := by rw [hg]; rfl
  have hgr : g.rank = none := by rw [hg]; rfl
  obtain ⟨-, hsolid, -⟩ := StagedFields.fillFits_iff.mp hf.fill
  refine ⟨⟨⟨q, hq, hf.rect q hq⟩, ?_, fun _ => ⟨⟨l, hl, hlayers l hl⟩, hgr, m, hm, hleases m hm⟩, fun h => absurd h ho⟩,
    fun _ => ⟨Region.remainingFits_iff.mpr fun _ => ⟨m, m, hm, hm, (hleases m hm).1, le_rfl⟩, rfl⟩, nofun,
        fun h => absurd h ho, ?_, ?_⟩
  · rw [Region.fillFits_iff]
    cases v with
    | source =>
      refine .inl ⟨hv, by simp [applyNew, hv], ?_, fun h => absurd h ho⟩
      have hp : g.pinned = false := by simpa [Region.pinned] using ho
      simp [applyNew, hv, Region.sourceStream_eq, Region.pinned, ho]
    | solid =>
      obtain ⟨hcolour, -⟩ := hsolid hv
      exact .inr ⟨hv, by simp [applyNew, hv], by simpa [applyNew, hv] using hcolour⟩
  · rw [hlayer, hgl, Option.or_none]
    rfl
  · rw [hrect, hgq, Option.or_none]
    rfl

theorem settledFacts_of_pin (hentry : s.entryFor k = some ⟨k, .pin, f⟩) (hg : g = newRegion g.owner g.tag) (ho : g.owner = .sup)
    (hf : StagedFacts s.scan.width s.scan.height (s.leaseMaxOf g.owner) g .pin f) :
    SettledFacts s k g (applyPin f g) := by
  obtain ⟨hrank, hlayer, hrect⟩ := State.prospective_of_entry hentry g
  obtain ⟨hfl, -, -, -, hpin⟩ := hf.sup ho
  obtain ⟨n, hn, hn7⟩ := hpin rfl
  obtain ⟨hrs, hfs⟩ := hf.whole nofun
  obtain ⟨q, hq⟩ := Option.isSome_iff_exists.mp hrs
  obtain ⟨v, hv⟩ := Option.isSome_iff_exists.mp hfs
  have hgl : g.layer = none := by rw [hg]; rfl
  have hgq : g.rect = none := by rw [hg]; rfl
  have hgr : g.rank = none := by rw [hg]; rfl
  have hp : g.pinned = true := Region.pinned_iff.mpr ho
  obtain ⟨hsource, hsolid, -⟩ := StagedFields.fillFits_iff.mp hf.fill
  refine ⟨⟨⟨q, hq, hf.rect q hq⟩, ?_, fun h => absurd ho h, fun _ => ⟨hgl, ⟨n, hn, hn7⟩, ?_, ?_, ?_⟩⟩,
    fun _ => ⟨Region.remainingFits_iff.mpr fun h => absurd ho h, ?_⟩, nofun, fun _ => ?_, ?_, ?_⟩
  · rw [Region.fillFits_iff]
    cases v with
    | source =>
      obtain ⟨-, hstream, -⟩ := hsource hv
      refine .inl ⟨hv, by simp [applyPin, hv], ?_, fun _ => by simpa [applyPin, hv] using hstream hp⟩
      simp [applyPin, hv, Region.sourceStream, ho]
    | solid =>
      obtain ⟨hcolour, -⟩ := hsolid hv
      exact .inr ⟨hv, by simp [applyPin, hv], by simpa [applyPin, hv] using hcolour⟩
  · show g.fallback = none
    rw [hg]; rfl
  · show g.lease = none
    rw [hg]; rfl
  · show g.remaining = none
    rw [hg]; rfl
  · show g.graceLeft = none
    rw [hg]; rfl
  · rw [hrank, hgr, Option.or_none]; rfl
  · rw [hlayer, hgl, hfl]; exact hgl
  · rw [hrect, hgq, Option.or_none]; rfl

/-- The fill, stream and colour of a LIVE region after an AMEND: one unit where the fill is carried (R75). -/
theorem applyAmend_fillFits (hg : g.fillFits = true) (hf : f.fillFits g.pinned g.fill = true) :
    (applyAmend f g).fillFits = true := by
  obtain ⟨hsource, hsolid, hnone⟩ := StagedFields.fillFits_iff.mp hf
  rw [Region.fillFits_iff] at hg ⊢
  have hsup : g.pinned = true ↔ g.owner = .sup := Region.pinned_iff
  cases hv : f.fill with
  | some v =>
    cases v with
    | source =>
      obtain ⟨-, hpinned, -⟩ := hsource hv
      refine .inl ⟨by simp [applyAmend, hv], by simp [applyAmend, hv], ?_, fun ho => ?_⟩
      · by_cases hp : g.pinned <;> simp [applyAmend, hv, Region.sourceStream_eq, Region.pinned] <;> simp_all [Region.pinned]
      · have hp := hsup.mpr ho
        simpa [applyAmend, hv, hp] using hpinned hp
    | solid =>
      obtain ⟨hcolour, -⟩ := hsolid hv
      exact .inr ⟨by simp [applyAmend, hv], by simp [applyAmend, hv], by simpa [applyAmend, hv] using hcolour⟩
  | none =>
    obtain ⟨hcolour, hstream⟩ := hnone hv
    obtain ⟨hgf, hgc, hgs, hgsup⟩ | ⟨hgf, hgs, hgc⟩ := hg
    · have hfc : f.colour = none := by
        rw [← Option.not_isSome_iff_eq_none]
        intro h
        have := hcolour h
        rw [hgf] at this
        cases this
      refine .inl ⟨by simp [applyAmend, hv, hgf], by simp [applyAmend, hv, hfc, hgc], ?_, fun ho => ?_⟩
      · cases hfs : f.stream with
        | none => simpa [applyAmend, hv, hfs, Region.sourceStream] using hgs
        | some n =>
          have ho := hsup.mp (hstream (by rw [hfs]; rfl)).1
          simp [applyAmend, hv, hfs, Region.sourceStream, ho]
      · cases hfs : f.stream with
        | none => simpa [applyAmend, hv, hfs] using hgsup ho
        | some n =>
          obtain ⟨-, -, m, hm, hm3⟩ := hstream (by rw [hfs]; rfl)
          obtain rfl := Option.some.inj (hfs.symm.trans hm)
          exact ⟨n, by simp [applyAmend, hv, hfs], hm3⟩
    · have hfs : f.stream = none := by
        rw [← Option.not_isSome_iff_eq_none]
        intro h
        have := (hstream h).2.1
        rw [hgf] at this
        cases this
      refine .inr ⟨by simp [applyAmend, hv, hgf], by simp [applyAmend, hv, hfs, hgs], ?_⟩
      simp [applyAmend, hv, Option.isSome_or, hgc]

theorem settledFacts_of_amend (hentry : s.entryFor k = some ⟨k, .amend, f⟩) (hst : g.state = .live) (hshapely : g.shapely s = true)
    (hf : StagedFacts s.scan.width s.scan.height (s.leaseMaxOf g.owner) g .amend f) :
    SettledFacts s k g (applyAmend f g) := by
  obtain ⟨hrank, hlayer, hrect⟩ := State.prospective_of_entry hentry g
  obtain ⟨⟨⟨q, hq, hqw⟩, hfill, hclient, hsup⟩, hremaining, hgrace, -, -⟩ := (Region.shapely_of_live hst).mp hshapely
  refine ⟨⟨?_, applyAmend_fillFits hfill (by simpa [heldFill] using hf.fill), fun ho => ?_, fun ho => ?_⟩,
    fun _ => ⟨?_, hgrace⟩, fun h => ?_, fun ho => ?_, hlayer.symm, hrect.symm⟩
  · show ∃ q, f.rect.or g.rect = some q ∧ _
    cases hfr : f.rect with
    | none => exact ⟨q, hq, hqw⟩
    | some q' => exact ⟨q', rfl, hf.rect q' hfr⟩
  · obtain ⟨⟨l, hl, hl15⟩, hgr, m, hm, hmr⟩ := hclient ho
    obtain ⟨hlayers, hleases, -⟩ := hf.client ho
    refine ⟨?_, hgr, ?_⟩
    · show ∃ l, f.layer.or g.layer = some l ∧ l ≤ 15
      cases hfl : f.layer with
      | none => exact ⟨l, hl, hl15⟩
      | some l' => exact ⟨l', rfl, hlayers l' hfl⟩
    · show ∃ l, f.lease.or g.lease = some l ∧ _
      cases hfm : f.lease with
      | none => exact ⟨m, hm, hmr⟩
      | some m' => exact ⟨m', rfl, hleases m' hfm⟩
  · obtain ⟨hgl, hgr, hgf, hgm, hgrem⟩ := hsup ho
    obtain ⟨hfl, hfm, hfb, -, -⟩ := hf.sup ho
    exact ⟨by simp [applyAmend, hfl, hgl], hgr, by simp [applyAmend, hfb, hgf], by simp [applyAmend, hfm, hgm],
      by simp [applyAmend, hfm, hgrem]⟩
  · rw [Region.remainingFits_iff] at hremaining ⊢
    intro ho
    obtain ⟨m, l, hm, hl, h1, hml⟩ := hremaining ho
    show ∃ m l, f.lease.or g.remaining = some m ∧ f.lease.or g.lease = some l ∧ _
    cases hfm : f.lease with
    | none => exact ⟨m, l, hm, hl, h1, hml⟩
    | some l' => exact ⟨l', l', rfl, rfl, ((hf.client ho).2.1 l' hfm).1, le_rfl⟩
  · rw [show (applyAmend f g).state = g.state from rfl, hst] at h
    cases h
  · obtain ⟨-, -, -, hfr, -⟩ := hf.sup ho
    rw [hrank, hfr rfl, Option.none_or]
    rfl

theorem settledFacts_of_revive {e : PoolEntry} (hentry : s.entryFor k = some e) (hf : e.fields = StagedFields.empty)
    (hst : g.state = .lapsed) (hshapely : g.shapely s = true) : SettledFacts s k g (applyRevive g) := by
  obtain ⟨hrank, hlayer, hrect⟩ := State.prospective_of_plain (s := s) (k := k)
    (fun e' he' => by rw [hentry] at he'; cases he'; exact hf) g
  obtain ⟨hactive, hclient, -, -, -⟩ := (Region.shapely_of_lapsed hst).mp hshapely
  refine ⟨hactive.of_fields rfl rfl rfl rfl rfl rfl rfl rfl rfl (fun h => absurd h hclient), fun _ => ⟨?_, rfl⟩, nofun,
    fun h => absurd h hclient, hlayer.symm, hrect.symm⟩
  obtain ⟨-, -, l, hl, h1, -⟩ := hactive.client hclient
  exact Region.remainingFits_iff.mpr fun _ => ⟨l, l, hl, hl, h1, le_rfl⟩

end

/-- A RETIRING region does not outlast parts 1 and 2 of a commit: it carries a removal, or its client departs (R15). -/
theorem State.TableFacts.settled_not_retiring {s : State} (ht : s.TableFacts) {k : Slot} {g r : Region}
    (h : s.settledRegion k = some r) (hg : s.table[k] = some g) : g.state ≠ .retiring := by
  intro hst
  obtain ⟨g', hg', hafter, -⟩ := State.settledRegion_eq_some.mp h
  obtain rfl := Option.some.inj (hg.symm.trans hg')
  cases he : s.entryFor k with
  | none =>
    rw [he] at hafter
    obtain rfl : g = r := Option.some.inj hafter
    obtain hlive | ⟨hlapsed, -⟩ := ht.settled_state h
    · rw [hst] at hlive; cases hlive
    · rw [hst] at hlapsed; cases hlapsed
  | some e =>
    rw [he] at hafter
    obtain ⟨hnew, hpin, hamend, hrevive, -⟩ := Region.admits_pinned (ht.admits_of_entryFor he hg)
    rw [hst] at hnew hpin hamend hrevive
    cases hk : e.kind with
    | new => exact absurd (hnew hk).1 nofun
    | pin => exact absurd (hpin hk).1 nofun
    | amend => exact absurd (hamend hk) nofun
    | revive => exact absurd (hrevive hk).1 nofun
    | release => rw [(afterEntry_eq_none_iff _ _).mpr (by simp [PoolEntry.frees, hk])] at hafter; cases hafter
    | unpin => rw [(afterEntry_eq_none_iff _ _).mpr (by simp [PoolEntry.frees, hk])] at hafter; cases hafter

/-- Every region that parts 1 and 2 of a commit leave. -/
theorem State.RegionFacts.settled {s : State} (hs : s.RegionFacts) (ht : s.TableFacts) {k : Slot} {r : Region}
    (h : s.settledRegion k = some r) : ∃ g, s.table[k] = some g ∧ r.owner = g.owner ∧ SettledFacts s k g r := by
  obtain ⟨g, hg, hafter, -⟩ := State.settledRegion_eq_some.mp h
  refine ⟨g, hg, afterEntry_owner hafter, ?_⟩
  have hshapely := hs.shapely k g hg
  have hstate := ht.settled_state h
  cases he : s.entryFor k with
  | none =>
    rw [he] at hafter
    obtain rfl : g = r := Option.some.inj hafter
    exact settledFacts_of_none he hshapely (hstate.imp id And.left)
  | some e =>
    rw [he] at hafter
    obtain ⟨hmem, rfl⟩ := mem_of_entryIn he
    have hadmits := ht.admits_of_entryFor he hg
    have hentry := hs.entries e hmem g hg
    obtain ⟨hnew, hpin, hamend, hrevive, -⟩ := Region.admits_pinned hadmits
    obtain ⟨slot, kind, f⟩ := e
    have hstagedNew (hst : g.state = .stagedNew) := (Region.shapely_of_stagedNew hst).mp hshapely
    cases kind with
    | new =>
      obtain ⟨hst, ho⟩ := hnew rfl
      rw [afterEntry_new] at hafter
      exact Option.some.inj hafter ▸ settledFacts_of_new he (hstagedNew hst) ho ((PoolEntry.shapely_new ho).mp hentry)
    | pin =>
      obtain ⟨hst, ho⟩ := hpin rfl
      rw [afterEntry_pin] at hafter
      exact Option.some.inj hafter ▸ settledFacts_of_pin he (hstagedNew hst) ho ((PoolEntry.shapely_pin ho).mp hentry)
    | amend =>
      rw [afterEntry_amend] at hafter
      exact Option.some.inj hafter ▸ settledFacts_of_amend he (hamend rfl) hshapely (PoolEntry.shapely_amend.mp hentry)
    | revive =>
      obtain ⟨hst, -⟩ := hrevive rfl
      have hafter : some (applyRevive g) = some r := hafter
      exact Option.some.inj hafter ▸
        settledFacts_of_revive he ((PoolEntry.shapely_removal (.inl rfl)).mp hentry) hst hshapely
    | release => cases hafter
    | unpin => cases hafter

/-! ### Commits (R80 to R84, R89) -/

theorem State.presented_pinned {s : State} {r : Region} (hst : r.state = .live) (ho : r.owner = .sup) :
    (s.presented r).presentation = .fill := by
  simp [State.presented, hst, ho]

theorem State.presented_fallback (s : State) {r : Region} (hst : r.state = .live) : (s.presented r).FallbackShown := by
  intro h
  show r.fallback.isSome = true
  unfold State.presented at h
  cases ho : r.owner with
  | sup => simp [hst, ho] at h
  | client n =>
    simp only [hst, ho] at h
    split at h
    · cases h
    · split at h
      · next h' => exact h'.2
      · cases h

/-- What the count and the presentation make of a settled region is a region of its state's shape. -/
theorem SettledFacts.counted {s t : State} {k : Slot} {g q p : Region} {c : Counted} (hq : SettledFacts s k g q)
    (hstate : q.state = .live ∨ (q.state = .lapsed ∧ q.owner ≠ .sup)) (hc : CountsTo s.scan.grace q c)
    (hp : c.record = some p) (hgrace : s.scan.grace ≤ 15) (hw : t.scan.width = s.scan.width)
    (hh : t.scan.height = s.scan.height) (hl : t.leaseMaxOf q.owner = s.leaseMaxOf q.owner) :
    (s.presented p).shapely t = true ∧ p.rank = q.rank ∧ p.layer = q.layer ∧ p.rect = q.rect := by
  obtain ⟨hactive, hlive, hlapsed, -, -, -⟩ := hq
  rw [← hw, ← hh, ← hl] at hactive
  have hstanding {p : Region} (hst : p.state = .live) (ha : ActiveFacts t.scan.width t.scan.height (t.leaseMaxOf p.owner) p)
      (hrem : p.remainingFits 1 = true) (hgl : p.graceLeft = none) : (s.presented p).shapely t = true := by
    refine (Region.shapely_of_live (r := s.presented p) hst).mpr ⟨?_, hrem, hgl, State.presented_pinned hst,
        State.presented_fallback s hst⟩
    exact ha.of_fields rfl rfl rfl rfl rfl rfl rfl rfl rfl (fun _ => rfl)
  have hgone {p : Region} (hst : p.state = .lapsed) (ho : p.owner ≠ .sup)
      (ha : ActiveFacts t.scan.width t.scan.height (t.leaseMaxOf p.owner) p) (hrem : p.remaining = some 0)
      (hgl : ∃ n, p.graceLeft = some n ∧ 1 ≤ n ∧ n ≤ 15) : (s.presented p).shapely t = true := by
    refine (Region.shapely_of_lapsed (r := s.presented p) hst).mpr ⟨?_, ho, hrem, hgl, ?_⟩
    · exact ha.of_fields rfl rfl rfl rfl rfl rfl rfl rfl rfl (fun _ => rfl)
    · rw [State.presented_of_lapsed hst]
  cases hc with
  | kept =>
    obtain rfl := Option.some.inj hp
    refine ⟨?_, rfl, rfl, rfl⟩
    obtain hst | ⟨hst, ho⟩ := hstate
    · exact hstanding hst hactive (hlive hst).1 (hlive hst).2
    · exact hgone hst ho hactive (hlapsed hst).1 (hlapsed hst).2
  | remaining hst hm =>
    obtain rfl := Option.some.inj hp
    refine ⟨hstanding hst ?_ ?_ (hlive hst).2, rfl, rfl, rfl⟩
    · refine hactive.of_fields rfl rfl rfl rfl rfl rfl rfl rfl rfl (fun ho => ?_)
      rw [(hactive.sup ho).2.2.2.2] at hm
      cases hm
    · rw [Region.remainingFits_iff]
      intro ho
      obtain ⟨m', l, hm', hl', -, hle⟩ := Region.remainingFits_iff.mp (hlive hst).1 ho
      rw [hm] at hm'
      obtain rfl := Option.some.inj hm'
      exact ⟨_, l, rfl, hl', by omega, by omega⟩
  | grace hst hn =>
    obtain rfl := Option.some.inj hp
    obtain ⟨hrem, n', hn', -, hle⟩ := hlapsed hst
    rw [hn] at hn'
    obtain rfl := Option.some.inj hn'
    obtain hst' | ⟨-, ho⟩ := hstate
    · rw [hst] at hst'; cases hst'
    · exact ⟨hgone hst ho (hactive.of_fields rfl rfl rfl rfl rfl rfl rfl rfl rfl (fun _ => rfl)) hrem
        ⟨_, rfl, by omega, by omega⟩, rfl, rfl, rfl⟩
  | lapsed ho hst hne =>
    obtain rfl := Option.some.inj hp
    refine ⟨hgone rfl ho ?_ rfl ⟨_, rfl, by omega, hgrace⟩, rfl, rfl, rfl⟩
    exact hactive.of_fields rfl rfl rfl rfl rfl rfl rfl rfl rfl (fun h => absurd h ho)
  | retired ho l => cases hp

theorem SessionRecord.settle_leaseMax (r : SessionRecord) : r.settle.marked.leaseMax = r.leaseMax := by
  rw [SessionRecord.settle_marked]
  split <;> rfl

theorem CommitsTo.leaseMaxOf {s t : State} {count : Slot → Counted} (h : CommitsTo s t count) (x : Session) :
    t.leaseMaxOf x = s.leaseMaxOf x := by
  rw [State.leaseMaxOf, h.sessions]
  split
  · next hx => rw [hx]; rfl
  · exact SessionRecord.settle_leaseMax _

theorem CommitsTo.regionFacts {s t : State} {count : Slot → Counted} (h : CommitsTo s t count) (hs : s.RegionFacts)
    (ht : s.TableFacts) (hgrace : s.scan.grace ≤ 15) : t.RegionFacts := by
  obtain ⟨hw, hh⟩ := h.panel
  have hplain (k : Slot) (r : Region) := State.prospective_of_plain (s := t) (k := k)
    (fun e he => by rw [State.entryFor_eq, h.pool] at he; cases he) r
  have hregion {k : Slot} {r : Region} (hr : t.table[k] = some r) :
      ∃ g q, s.table[k] = some g ∧ SettledFacts s k g q ∧ q.owner = g.owner ∧ r.owner = q.owner ∧ r.shapely t = true
        ∧ r.rank = q.rank ∧ r.layer = q.layer ∧ r.rect = q.rect := by
    obtain ⟨q, p, hq, hcounts, hp, rfl⟩ := h.region hr
    obtain ⟨g, hg, hqo, hfacts⟩ := hs.settled ht hq
    obtain ⟨hshapely, hrank, hlayer, hrect⟩ :=
      hfacts.counted (ht.settled_state hq) hcounts hp hgrace hw hh (h.leaseMaxOf _)
    exact ⟨g, q, hg, hfacts, hqo, (hcounts.record hp).1, hshapely, hrank, hlayer, hrect⟩
  refine hs.of_fewer (fun k r hr => ?_) (fun e he => ?_) (fun k r hr ho => ?_) (fun k r hr hv => ?_)
  · obtain ⟨-, -, -, -, -, -, hshapely, -⟩ := hregion hr
    exact hshapely
  · rw [h.pool] at he
    cases he
  · obtain ⟨g, q, hg, hfacts, hqo, hro, -, hrank, -, -⟩ := hregion hr
    refine ⟨g, hg, hqo.symm.trans (hro.symm.trans ho), ?_⟩
    rw [(hplain k r).1, hrank]
    exact hfacts.rank (hro.symm.trans ho)
  · obtain ⟨g, q, hg, hfacts, hqo, hro, -, -, hlayer, hrect⟩ := hregion hr
    refine ⟨g, hg, Region.reserves_iff.mpr ⟨?_, ?_⟩, ?_, ?_⟩
    · rw [← hqo, ← hro]
      exact (Region.reserves_iff.mp hv).1
    · intro hretiring
      obtain ⟨q', hq'⟩ : ∃ q', s.settledRegion k = some q' := by
        obtain ⟨q', _, hq', -⟩ := h.region hr
        exact ⟨q', hq'⟩
      exact (ht.settled_not_retiring hq' hg) hretiring
    · rw [(hplain k r).2.1, hlayer]
      exact hfacts.layer
    · rw [(hplain k r).2.2, hrect]
      exact hfacts.rect

end Sys2Proof.Machine
end

section
/-! PROOFS. Swaps, panels, effects and commits keep regions with their fields, ranks and claims (R2, R4, R16 to R18). -/

namespace Sys2Proof.Machine

set_option Elab.async false

/-! ### Swaps and panels -/

/-- A region once a swap has answered it (R129). -/
def Region.unawaited (r : Region) : Region := { r with awaiting := false }

/-- No shape reads the awaiting flag of a region that is not STAGED_NEW, and a STAGED_NEW region has none set (R2). -/
theorem Region.shapely_unawaited {s : State} {r : Region} (h : r.shapely s = true) :
    r.unawaited.shapely s = true := by
  have hactive {m : Nat} (ha : ActiveFacts s.scan.width s.scan.height m r) :
      ActiveFacts s.scan.width s.scan.height m r.unawaited :=
    ha.of_fields rfl rfl rfl rfl rfl rfl rfl rfl rfl (fun _ => rfl)
  cases hst : r.state with
  | stagedNew =>
    rw [Region.shapely_of_stagedNew hst] at h
    rw [Region.shapely_of_stagedNew (r := r.unawaited) hst, h]
    rfl
  | live =>
    obtain ⟨ha, hrem, hgrace, hfilled, hfallback⟩ := (Region.shapely_of_live hst).mp h
    exact (Region.shapely_of_live (r := r.unawaited) hst).mpr ⟨hactive ha, hrem, hgrace, hfilled, hfallback⟩
  | retiring =>
    obtain ⟨ha, hrem, hgrace, hfilled, hfallback⟩ := (Region.shapely_of_retiring hst).mp h
    exact (Region.shapely_of_retiring (r := r.unawaited) hst).mpr
      ⟨hactive ha, hrem, hgrace, hfilled, hfallback⟩
  | lapsed =>
    obtain ⟨ha, hclient, hrem, hgrace, hhidden⟩ := (Region.shapely_of_lapsed hst).mp h
    exact (Region.shapely_of_lapsed (r := r.unawaited) hst).mpr ⟨hactive ha, hclient, hrem, hgrace, hhidden⟩

theorem State.RegionFacts.install {s : State} (hs : s.RegionFacts) (p : Plan) : (s.install p).RegionFacts := by
  have htable (k : Slot) : (s.install p).table[k] = s.table[k].map Region.unawaited := by
    simp only [State.install, State.raiseIf_table, getElem_map_slot]
    rfl
  have hpool : (s.install p).pool = s.pool := by simp only [State.install, State.raiseIf_pool]
  have hscan : (s.install p).scan = { s.scan with state := afterInstall s.scan.state } := by
    simp only [State.install, State.raiseIf_scan]
  have hsessions := s.install_sessions p
  generalize s.install p = t at *
  have hw : t.scan.width = s.scan.width := by rw [hscan]
  have hh : t.scan.height = s.scan.height := by rw [hscan]
  have hlease (x : Session) : t.leaseMaxOf x = s.leaseMaxOf x := by rw [State.leaseMaxOf, hsessions]; rfl
  have hregion {k : Slot} {r : Region} (hr : t.table[k] = some r) :
      ∃ q, s.table[k] = some q ∧ r = q.unawaited := by
    rw [htable, Option.map_eq_some_iff] at hr
    obtain ⟨q, hq, rfl⟩ := hr
    exact ⟨q, hq, rfl⟩
  have hsame (k : Slot) (q : Region) := State.prospective_congr (s := s) (t := t) (k := k)
    (by rw [State.entryFor_eq, hpool]; rfl) (q := q) (r := q.unawaited) rfl rfl rfl
  refine hs.of_fewer (fun k r hr => ?_) (fun e he r hr => ?_) (fun k r hr ho => ?_) (fun k r hr hv => ?_)
  · obtain ⟨q, hq, rfl⟩ := hregion hr
    rw [Region.shapely_congr hw hh (hlease _)]
    exact Region.shapely_unawaited (hs.shapely k q hq)
  · obtain ⟨q, hq, rfl⟩ := hregion hr
    rw [PoolEntry.shapely_congr (s := s) (q := q) (r := q.unawaited) hw hh rfl rfl (hlease _)]
    exact hs.entries e (hpool ▸ he) q hq
  · obtain ⟨q, hq, rfl⟩ := hregion hr
    exact ⟨q, hq, ho, (hsame k q).1⟩
  · obtain ⟨q, hq, rfl⟩ := hregion hr
    exact ⟨q, hq, hv, (hsame k q).2⟩

theorem Rect.within_iff {q : Rect} {w h : Nat} :
    q.within w h = true ↔ (q.x0 < q.x1 ∧ q.y0 < q.y1) ∧ q.x1 ≤ w ∧ q.y1 ≤ h := by
  simp only [Rect.within, Bool.and_eq_true, decide_eq_true_iff]
  tauto

theorem ActiveFacts.of_rect {w h w' h' m : Nat} {r : Region} (ha : ActiveFacts w h m r)
    (hrect : ∀ q, r.rect = some q → q.within w h = true → q.within w' h' = true) : ActiveFacts w' h' m r where
  rect := by
    obtain ⟨q, hq, hqw⟩ := ha.rect
    exact ⟨q, hq, hrect q hq hqw⟩
  fill := ha.fill
  client := ha.client
  sup := ha.sup

/-- A region's shape under another panel that still holds its rectangle. -/
theorem Region.shapely_of_rect {s t : State} {r : Region} (h : r.shapely s = true)
    (hl : t.leaseMaxOf r.owner = s.leaseMaxOf r.owner)
    (hrect : ∀ q, r.rect = some q → q.within s.scan.width s.scan.height = true → q.within t.scan.width t.scan.height = true) :
    r.shapely t = true := by
  cases hst : r.state with
  | stagedNew => exact (Region.shapely_of_stagedNew hst).mpr ((Region.shapely_of_stagedNew hst).mp h)
  | live =>
    obtain ⟨ha, hrest⟩ := (Region.shapely_of_live hst).mp h
    exact (Region.shapely_of_live hst).mpr ⟨hl ▸ ha.of_rect hrect, ‹_›, ‹_›, ‹_›, ‹_›⟩
  | retiring =>
    obtain ⟨ha, hrest⟩ := (Region.shapely_of_retiring hst).mp h
    exact (Region.shapely_of_retiring hst).mpr ⟨hl ▸ ha.of_rect hrect, ‹_›, ‹_›, ‹_›, ‹_›⟩
  | lapsed =>
    obtain ⟨ha, hrest⟩ := (Region.shapely_of_lapsed hst).mp h
    exact (Region.shapely_of_lapsed hst).mpr ⟨hl ▸ ha.of_rect hrect, ‹_›, ‹_›, ‹_›, ‹_›⟩

/-- An entry's shape under another panel that still holds its rectangle. -/
theorem PoolEntry.shapely_of_rect {s t : State} {r : Region} {e : PoolEntry} (h : e.shapely s r = true)
    (hadmits : r.admits e.kind = true) (hl : t.leaseMaxOf r.owner = s.leaseMaxOf r.owner)
    (hrect : ∀ q, e.fields.rect = some q → q.within s.scan.width s.scan.height = true →
      q.within t.scan.width t.scan.height = true) : e.shapely t r = true := by
  have hstaged (hkind : e.kind = .new ∨ e.kind = .pin ∨ e.kind = .amend) : e.shapely t r = true := by
    have hf := PoolEntry.staged_of_shapely h hadmits hkind
    exact PoolEntry.shapely_of_staged hadmits hkind
      (hl ▸ ⟨fun q hq => hrect q hq (hf.rect q hq), hf.client, hf.sup, hf.fill, hf.whole, hf.new⟩)
  have hremoval (hkind : e.kind = .revive ∨ e.kind = .release ∨ e.kind = .unpin) : e.shapely t r = true :=
    (PoolEntry.shapely_removal hkind).mpr ((PoolEntry.shapely_removal hkind).mp h)
  cases hk : e.kind with
  | new => exact hstaged (.inl hk)
  | pin => exact hstaged (.inr (.inl hk))
  | amend => exact hstaged (.inr (.inr hk))
  | revive => exact hremoval (.inl hk)
  | release => exact hremoval (.inr (.inl hk))
  | unpin => exact hremoval (.inr (.inr hk))

/-- The panel that CONFIGURE's check has passed (R157). -/
theorem State.RegionFacts.configured {s : State} (hs : s.RegionFacts) (ht : s.TableFacts) {c : ScanControl}
    (hconflict : s.geometryConflict c.width c.height = none) : ({ s with scan := c } : State).RegionFacts := by
  have hbeyond (k : Slot) : ¬ (s.slotBeyond c.width c.height k = true) := by
    rw [find_slots_eq_none.mp hconflict k]
    nofun
  have hwithin {q : Rect} (h : q.within s.scan.width s.scan.height = true) (hb : ¬ (c.width < q.x1 ∨ c.height < q.y1)) :
      q.within c.width c.height = true := by
    rw [Rect.within_iff] at h ⊢
    exact ⟨h.1, by omega, by omega⟩
  refine hs.of_fewer (fun k r hr => ?_) (fun e he r hr => ?_) (fun k r hr ho => ⟨r, hr, ho, rfl⟩)
    (fun k r hr hv => ⟨r, hr, hv, rfl, rfl⟩)
  · refine Region.shapely_of_rect (hs.shapely k r hr) rfl fun q hq hqw => hwithin hqw fun hb => ?_
    exact hbeyond k (State.slotBeyond_iff.mpr ⟨r, hr, .inl ⟨q, hq, hb⟩⟩)
  · obtain ⟨r', hr', hadmits⟩ := ht.admits e he
    obtain rfl := Option.some.inj (hr'.symm.trans hr)
    refine PoolEntry.shapely_of_rect (hs.entries e he r' hr') hadmits rfl fun q hq hqw => hwithin hqw fun hb => ?_
    exact hbeyond e.slot (State.slotBeyond_iff.mpr ⟨r', hr', .inr ⟨e, ht.entryFor_of_mem he, q, hq, hb⟩⟩)

theorem ScanEffect.regionFacts {s t : State} (h : ScanEffect s t) (hs : s.RegionFacts) (ht : s.TableFacts) : t.RegionFacts := by
  cases h with
  | control c hpanel => exact hs.of_eq rfl rfl ⟨hpanel.1, hpanel.2.1⟩ (fun _ _ _ => rfl)
  | configured hst hvalid hconflict => exact hs.configured ht hconflict
  | stopped => exact hs.of_eq rfl rfl ⟨rfl, rfl⟩ (fun _ _ _ => rfl)
  | cleared =>
    rw [State.clearTable_eq]
    exact .of_empty s.emptied_table
  | reset => exact .of_empty (fun _ => Vector.getElem_replicate _)

theorem ScanEffect.grace {s t : State} (h : ScanEffect s t) (hs : s.scan.grace ≤ 15) : t.scan.grace ≤ 15 := by
  cases h with
  | control c hpanel => exact hpanel.2.2 ▸ hs
  | configured hst hvalid hconflict => exact hvalid.2.2.2.2
  | stopped => exact hs
  | cleared =>
    rw [State.clearTable_eq]
    exact hs
  | reset => exact hs

/-! ### Every effect of a request -/

/-- No effect of a request but a scan request's writes the grace period. -/
theorem RuleEffect.grace {p : Port} {s t : State} (h : RuleEffect p s t) (hs : s.scan.grace ≤ 15) : t.scan.grace ≤ 15 := by
  induction h with
  | trans h h' ih ih' => exact ih' (ih hs)
  | amended => unfold State.stageAmend; split <;> exact hs
  | removal => unfold State.stageRemoval; split <;> exact hs
  | scan hp hc => exact (scanRule_effect hc _ _).grace hs
  | @forced u hp hst => rw [u.forceParts_outside]; exact hs
  | none | alert | attach | depart | evictedMark | limits | pending | opened | pinned | renewed | revived | freed | fetched
    | cursor => exact hs

/-- A record changed but for its lease maximum. -/
theorem State.RegionFacts.mapSession {s : State} (hs : s.RegionFacts) {x : Session} {f : SessionRecord → SessionRecord}
    (hlease : (f (s.sessions.get x)).leaseMax = (s.sessions.get x).leaseMax) : (s.mapSession x f).RegionFacts := by
  refine hs.of_eq rfl rfl ⟨rfl, rfl⟩ (fun k r _ => ?_)
  rw [State.leaseMaxOf, State.mapSession, PerSession.get_set]
  split
  · next h => rw [hlease, h]; rfl
  · rfl

/-- A DETACHED client owns no region whose lease its maximum could bound (R26). -/
theorem State.RegionFacts.mapDetached {s : State} (hs : s.RegionFacts) (ht : s.TableFacts) {n : Client}
    (hst : (s.sessions.get (.client n)).state = .detached) (f : SessionRecord → SessionRecord) :
    (s.mapSession (.client n) f).RegionFacts := by
  refine hs.of_eq rfl rfl ⟨rfl, rfl⟩ (fun k r hr => ?_)
  have howner : r.owner ≠ .client n := by
    intro ho
    have := (State.ownerFits_iff.mp (ht.owner k r hr)).1
    rw [ho] at this
    exact this hst
  rw [State.leaseMaxOf, State.mapSession, PerSession.get_set_of_ne _ _ howner]
  rfl

theorem leaseMax_pos {s : State} (hs : s.SessionsLegal) (n : Client) : 1 ≤ s.leaseMaxOf (.client n) := (hs.1 n).2.2.1

theorem RuleEffect.regionFacts {p : Port} {s t : State} (h : RuleEffect p s t) (hs : s.RegionFacts) (ht : s.TableFacts)
    (hgrace : s.scan.grace ≤ 15) : t.RegionFacts := by
  induction h with
  | none s => exact hs
  | trans h h' ih ih' => exact ih' (ih hs ht hgrace) (h.tableFacts ht) (h.grace hgrace)
  | alert s a hmask => exact hs.of_eq rfl rfl ⟨rfl, rfl⟩ (fun _ _ _ => rfl)
  | attach hp hst => exact hs.mapSession rfl
  | depart hp hst => exact hs.depart _
  | evictedMark hp hst => exact hs.mapSession rfl
  | limits hp hvalid hst hsum => exact hs.mapDetached ht hst _
  | pending hp hf hst => exact hs.mapSession rfl
  | @opened s n b k hp hst hvalid htag hquota hrect hclaim hroom hfree =>
    exact hs.createRegion ht hfree rfl
      (openFields_facts hvalid (leaseMax_pos ht.sessions n) hrect nofun) nofun (fun q h => nomatch h)
      (fun _ q l hq hl => Option.some.inj hq ▸ Option.some.inj hl ▸ hclaim)
  | pinned hp hvalid htag hcount hrect hrank hroom hfree =>
    exact hs.createRegion ht hfree rfl (pinFields_facts hvalid hrect rfl) (fun _ => hcount)
      (fun q _ hq => Option.some.inj hq ▸ hrank) (fun h => absurd rfl h)
  | @amended s b k r f hf hst hregion hlive hvalid hrect hclaim hroom =>
    obtain ⟨hr, howner, -⟩ := ht.region_of_tag hregion
    refine hs.stageAmend ht hr hlive ?_ (fun ho => hclaim (howner ▸ ho))
    subst hf howner
    cases ho : r.owner with
    | sup =>
      rw [ho] at hvalid hrect
      rw [show r.pinned = true from Region.pinned_iff.mpr ho]
      exact amendPinned_facts hvalid hrect
    | client n =>
      rw [ho] at hvalid hrect
      rw [show r.pinned = false by simp [Region.pinned, ho]]
      exact amendClient_facts hvalid (leaseMax_pos ht.sessions n) hrect
  | renewed hp he hk hr hlive =>
    obtain ⟨r', hr', howner, -⟩ := ht.names _ _ he _ hk
    obtain rfl := Option.some.inj (hr'.symm.trans hr)
    exact hs.renew hr hlive (howner ▸ hp)
  | revived hp he hk hr hlapsed hentry hroom => exact hs.revive hentry
  | freed hregion hst => exact hs.freeStaged _ _
  | removal hkind hsession hregion hst hroom =>
    obtain ⟨hr, howner, -⟩ := ht.region_of_tag hregion
    exact hs.stageRemoval ht hr hst (howner ▸ hkind) hroom
  | fetched s => exact hs.of_eq rfl rfl ⟨rfl, rfl⟩ (fun _ _ _ => rfl)
  | cursor c hst => exact hs.mapSession rfl
  | scan hp hc => exact (scanRule_effect hc _ _).regionFacts hs ht
  | forced hp hst => exact (State.forceParts_commitsTo ht.entries).regionFacts hs ht hgrace

/-! ### Every event -/

theorem State.vblankCommit_regionFacts {s : State} (hs : s.RegionFacts) (ht : s.TableFacts) (hgrace : s.scan.grace ≤ 15)
    (f : Word16) : (s.vblankCommit f).RegionFacts := by
  have hparts := State.commitParts_commitsTo ht.entries
  obtain ⟨htable, -, hpool, hsessions, -, -⟩ := s.vblankCommit_parts f
  have hscan : (s.vblankCommit f).scan.width = s.commitParts.scan.width
      ∧ (s.vblankCommit f).scan.height = s.commitParts.scan.height := by
    rw [hparts.panel.1, hparts.panel.2, State.vblankCommit_scan]
    exact ⟨rfl, rfl⟩
  exact (hparts.regionFacts hs ht hgrace).of_eq htable hpool hscan
    (fun _ _ _ => by rw [State.leaseMaxOf, hsessions]; rfl)

/-- The regions, with the agreement of the table and of the scan side that their steps read. -/
structure State.RegionsHeld (s : State) : Prop where
  scan : s.ScanLegal
  table : s.TableFacts
  regions : s.RegionFacts

theorem regionsHeld_keptByEvents : KeptByEvents State.RegionsHeld where
  view := by
    rintro s t ⟨hscan, htable, hregions⟩ h
    refine ⟨scanLegal_keptByEvents.view hscan h, tableFacts_keptByEvents.view htable h, ?_⟩
    simp only [State.behindPorts, Prod.mk.injEq, ScanControl.mk.injEq] at h
    obtain ⟨htable, -, hpool, hsessions, ⟨-, -, -, hw, hh, -⟩, -⟩ := h
    exact hregions.of_eq htable hpool ⟨hw, hh⟩
      (fun _ _ _ => by rw [State.leaseMaxOf, hsessions]; rfl)
  rule := by
    rintro p c s hp hdue ⟨hscan, htable, hregions⟩
    exact ⟨scanLegal_keptByEvents.rule hp hdue hscan, tableFacts_keptByEvents.rule hp hdue htable,
      (requestRule_effect hp s).regionFacts hregions htable hscan.2.1⟩
  handOver := by
    rintro s f hst ⟨hscan, htable, hregions⟩
    exact ⟨scanLegal_keptByEvents.handOver f hst hscan, tableFacts_keptByEvents.handOver f hst htable,
      hregions.of_eq rfl rfl ⟨rfl, rfl⟩ (fun _ _ _ => rfl)⟩
  commit := by
    rintro s f rest hdue ⟨hscan, htable, hregions⟩
    refine ⟨scanLegal_keptByEvents.commit hdue hscan, tableFacts_keptByEvents.commit hdue htable, ?_⟩
    have hq : ({ s with commitsDue := rest } : State).RegionFacts := hregions.of_eq rfl rfl ⟨rfl, rfl⟩ (fun _ _ _ => rfl)
    have hqt : ({ s with commitsDue := rest } : State).TableFacts := htable.of_eq rfl rfl rfl rfl rfl
    rw [State.takeCommit_of_due hdue]
    exact State.vblankCommit_regionFacts hq hqt hscan.2.1 f
  swap := by
    rintro s p hready hst ⟨hscan, htable, hregions⟩
    exact ⟨scanLegal_keptByEvents.swap hready hst hscan, tableFacts_keptByEvents.swap hready hst htable, hregions.install p⟩
  complete := by
    rintro s j hres ⟨hscan, htable, hregions⟩
    exact ⟨scanLegal_keptByEvents.complete hres hscan, tableFacts_keptByEvents.complete hres htable,
      hregions.of_eq rfl rfl ⟨rfl, rfl⟩ (fun _ _ _ => rfl)⟩
  reset := by
    intro s
    exact ⟨scanLegal_keptByEvents.reset s, tableFacts_keptByEvents.reset s, .of_empty (fun _ => Vector.getElem_replicate _)⟩

end Sys2Proof.Machine
end

section
/-! PROOFS. What the Resolver and the Plan Store hold stays sound, and with it the whole invariant of the part (R104 to R115,
R122). -/

namespace Sys2Proof.Machine

set_option Elab.async false

/-! ### A resolve reads a sound job (R104, R115) -/

theorem filterMap_filter_length_le {α β : Type} {f : α → Option β} {p : β → Bool} {q : α → Bool}
    (h : ∀ a b, f a = some b → p b = true → q a = true) (l : List α) :
    ((l.filterMap f).filter p).length ≤ (l.filter q).length := by
  induction l with
  | nil => exact le_rfl
  | cons a l ih =>
    cases hf : f a with
    | none =>
      rw [List.filterMap_cons_none hf]
      exact ih.trans ((List.sublist_cons_self a l).filter q).length_le
    | some b =>
      rw [List.filterMap_cons_some hf]
      cases hp : p b with
      | false =>
        rw [List.filter_cons_of_neg (by rw [hp]; nofun)]
        exact ih.trans ((List.sublist_cons_self a l).filter q).length_le
      | true =>
        rw [List.filter_cons_of_pos hp, List.filter_cons_of_pos (h a b hf hp)]
        exact Nat.succ_le_succ ih

theorem Region.candidate_eq_some {r : Region} {k : Slot} {c : Candidate} (h : r.candidate k = some c) :
    r.rect = some c.rect ∧ c.pinned = r.pinned ∧ r.presentation ≠ .none := by
  unfold Region.candidate at h
  split at h
  · next q d hq hd =>
    obtain rfl := Option.some.inj h
    refine ⟨hq, rfl, fun hp => ?_⟩
    rw [Region.content, hp] at hd
    cases hd
  · cases h

/-- A candidate's rectangle is its region's, within the panel (R4). -/
theorem Region.rect_within {s : State} {r : Region} {q : Rect} (h : r.shapely s = true) (hq : r.rect = some q) :
    q.within s.scan.width s.scan.height = true := by
  have hactive {m : Nat} (ha : ActiveFacts s.scan.width s.scan.height m r) : q.within s.scan.width s.scan.height = true := by
    obtain ⟨q', hq', hw⟩ := ha.rect
    obtain rfl := Option.some.inj (hq'.symm.trans hq)
    exact hw
  cases hst : r.state with
  | stagedNew =>
    rw [(Region.shapely_of_stagedNew hst).mp h] at hq
    cases hq
  | live => exact hactive ((Region.shapely_of_live hst).mp h).active
  | retiring => exact hactive ((Region.shapely_of_retiring hst).mp h).active
  | lapsed => exact hactive ((Region.shapely_of_lapsed hst).mp h).active

theorem State.RegionFacts.resolveJob_sound {s : State} (hs : s.RegionFacts) (hw : 0 < s.scan.width) (hh : 0 < s.scan.height)
    (f : Word16) : (s.resolveJob f).Sound := by
  refine ⟨hw, hh, fun c hc => ?_, ?_⟩
  · obtain ⟨k, -, hk⟩ := List.mem_filterMap.mp (show c ∈ s.candidates from hc)
    obtain ⟨r, hr, hc⟩ := Option.bind_eq_some_iff.mp hk
    exact Region.rect_within (hs.shapely k r hr) (Region.candidate_eq_some hc).1
  · refine le_trans ?_ hs.pinned
    rw [State.pinnedCount_eq]
    show (s.candidates.filter _).length ≤ _
    unfold State.candidates
    refine filterMap_filter_length_le (fun k c hk hp => ?_) slots
    obtain ⟨r, hr, hc⟩ := Option.bind_eq_some_iff.mp hk
    rw [hr, Option.any_some, ← (Region.candidate_eq_some hc).2.1]
    exact hp

/-- Outside STOPPED the panel has pixels (R156). -/
theorem State.ScanLegal.panel_pos {s : State} (hs : s.ScanLegal) (h : s.scan.state ≠ .stopped) :
    0 < s.scan.width ∧ 0 < s.scan.height := by
  obtain ⟨hpanel, -, -, hwidth, -⟩ := hs
  have := hwidth h
  omega

/-! ### The changes of plans and marks -/

theorem backgroundPlan_legal (f : Word16) {w h : Nat} (hw : 0 < w) (hh : 0 < h) (c : Colour) :
    (backgroundPlan f w h c).Tiles ∧ (backgroundPlan f w h c).Maximal ∧ (backgroundPlan f w h c).Fits := by
  refine ⟨⟨?_, ?_⟩, ⟨?_, ?_⟩, by simp [Plan.Fits, backgroundPlan]⟩
  · simp [backgroundPlan, tilesFrom, hh]
  · simp [backgroundPlan, tilesFrom, hw]
  · simp [backgroundPlan]
  · simp [backgroundPlan]

section
variable {s t : State} (hs : s.PlansLegal)
include hs

theorem State.PlansLegal.of_eq (hresolver : t.resolver = s.resolver) (hfront : t.front = s.front)
    (hshown : ∀ k : Slot, t.shown[k] = true → s.shown[k] = true) : t.PlansLegal := by
  obtain ⟨hsound, hplan, hmarks⟩ := hs
  unfold State.PlansLegal
  rw [hresolver, hfront]
  exact ⟨hsound, hplan, fun k hk => hmarks k (hshown k hk)⟩

theorem State.PlansLegal.of_kept (h : s.ScanKept t) : t.PlansLegal := by
  obtain ⟨hside, hshown⟩ := h
  simp only [State.scanSide, Prod.mk.injEq] at hside
  obtain ⟨-, hresolver, hfront, -⟩ := hside
  exact hs.of_eq hresolver hfront hshown

theorem ScanEffect.plansLegal (h : ScanEffect s t) (hscan : s.ScanLegal) : t.PlansLegal := by
  cases h with
  | control c hpanel => exact hs.of_eq rfl rfl (fun _ hk => hk)
  | configured hst hvalid hconflict => exact hs.of_eq rfl rfl (fun _ hk => hk)
  | stopped => exact ⟨trivial, nofun, fun k hk => by rw
      [show s.stopped.shown[k] = false from Vector.getElem_replicate _] at hk; cases hk⟩
  | cleared =>
    rw [State.clearTable_eq]
    have hclear (k : Slot) (hk : s.emptied.shown[k] = true) : False := by rw [s.emptied_shown] at hk; cases hk
    by_cases hst : s.scan.state = .hold
    · obtain ⟨hw, hh⟩ := hscan.panel_pos (by rw [hst]; nofun)
      simp only [hst, if_true]
      refine ⟨trivial, fun p hp => ?_, fun k hk => (hclear k hk).elim⟩
      obtain rfl := Option.some.inj hp
      exact backgroundPlan_legal _ hw hh _
    · simp only [hst, if_false]
      exact ⟨hs.1, hs.2.1, fun k hk => (hclear k hk).elim⟩
  | reset => exact ⟨trivial, nofun, fun k hk => by rw
      [show s.softReset.shown[k] = false from Vector.getElem_replicate _] at hk; cases hk⟩

theorem requestRule_plansLegal (hscan : s.ScanLegal) (p : Port) (c : Call) : (requestRule p c s).1.PlansLegal := by
  cases hc : movesScan c with
  | false => exact hs.of_kept (requestRule_scanSide p c hc s)
  | true => exact ScanEffect.plansLegal hs (scanRule_effect hc p s) hscan

theorem State.install_plansLegal {p : Plan} (hready : s.resolver = .ready p) : (s.install p).PlansLegal := by
  have hp : p.Tiles ∧ p.Maximal ∧ p.Fits := by
    have hsound := hs.1
    rw [hready] at hsound
    exact hsound
  simp only [State.PlansLegal, State.install, State.raiseIf_resolver, State.raiseIf_front, State.raiseIf_shown,
    getElem_ofFn_slot, Bool.and_eq_true]
  refine ⟨trivial, fun q hq => ?_, fun k hk => ⟨p, rfl, hk.2⟩⟩
  obtain rfl := Option.some.inj hq
  exact hp

/-- A commit clears marks at most, and the resolve it starts reads the table it leaves. -/
theorem State.vblankCommit_plansLegal (hparts : s.commitParts.RegionFacts) (hw : 0 < s.scan.width) (hh : 0 < s.scan.height)
    (f : Word16) : (s.vblankCommit f).PlansLegal := by
  have hkept := hs.of_kept s.commitParts_scanKept
  unfold State.vblankCommit
  split
  · refine ⟨hparts.resolveJob_sound ?_ ?_ f, hkept.2⟩
    · rw [State.commitParts_scan]; exact hw
    · rw [State.commitParts_scan]; exact hh
  · exact hkept

end

/-! ### The whole invariant -/

theorem State.consistent_iff {s : State} : s.Consistent ↔ s.RegionsHeld ∧ s.PlansLegal := by
  unfold State.Consistent
  rw [State.tableAgrees_iff, State.regionsLegal_iff]
  exact ⟨fun ⟨ht, hscan, hr, hp⟩ => ⟨⟨hscan, ht, hr⟩, hp⟩, fun ⟨⟨hscan, ht, hr⟩, hp⟩ => ⟨ht, hscan, hr, hp⟩⟩

theorem heldInReset_plansLegal (s : State) : s.heldInReset.PlansLegal :=
  ⟨trivial, nofun, fun k hk => by rw [show s.heldInReset.shown[k] = false from Vector.getElem_replicate _] at hk; cases hk⟩

theorem consistent_keptByEvents : KeptByEvents (fun s => s.RegionsHeld ∧ s.PlansLegal) where
  view := by
    rintro s t ⟨hheld, hplans⟩ h
    refine ⟨regionsHeld_keptByEvents.view hheld h, ?_⟩
    simp only [State.behindPorts, Prod.mk.injEq] at h
    obtain ⟨-, -, -, -, -, hresolver, hfront, hshown, -⟩ := h
    exact hplans.of_eq hresolver hfront (fun k hk => hshown ▸ hk)
  rule := by
    rintro p c s hp hdue ⟨hheld, hplans⟩
    exact ⟨regionsHeld_keptByEvents.rule hp hdue hheld, requestRule_plansLegal hplans hheld.scan p c⟩
  handOver := by
    rintro s f hst ⟨hheld, hplans⟩
    exact ⟨regionsHeld_keptByEvents.handOver f hst hheld, hplans.of_eq rfl rfl (fun _ hk => hk)⟩
  commit := by
    rintro s f rest hdue ⟨hheld, hplans⟩
    refine ⟨regionsHeld_keptByEvents.commit hdue hheld, ?_⟩
    have hst : s.scan.state ≠ .stopped := by
      intro hst
      rw [(hheld.scan.2.2.1 hst).2.2.2.2] at hdue
      cases hdue
    obtain ⟨hw, hh⟩ := hheld.scan.panel_pos hst
    have hq : ({ s with commitsDue := rest } : State).PlansLegal := hplans.of_eq rfl rfl (fun _ hk => hk)
    have hqt : ({ s with commitsDue := rest } : State).TableFacts := hheld.table.of_eq rfl rfl rfl rfl rfl
    have hqr : ({ s with commitsDue := rest } : State).RegionFacts :=
      hheld.regions.of_eq rfl rfl ⟨rfl, rfl⟩ (fun _ _ _ => rfl)
    rw [State.takeCommit_of_due hdue]
    exact State.vblankCommit_plansLegal hq ((State.commitParts_commitsTo hqt.entries).regionFacts hqr hqt hheld.scan.2.1)
      hw hh f
  swap := by
    rintro s p hready hst ⟨hheld, hplans⟩
    exact ⟨regionsHeld_keptByEvents.swap hready hst hheld, State.install_plansLegal hplans hready⟩
  complete := by
    rintro s j hres ⟨hheld, hplans⟩
    refine ⟨regionsHeld_keptByEvents.complete hres hheld, ?_, hplans.2⟩
    have hsound := hplans.1
    rw [hres] at hsound
    exact j.plan_legal hsound
  reset := fun s => ⟨regionsHeld_keptByEvents.reset s, heldInReset_plansLegal s⟩

/-- Settles O60: regions and plans kept sound by each happening, beside the agreements of O58 and O59. -/
theorem stepKeepsThePartConsistent : Obligations.StepKeepsThePartConsistent :=
  fun _ _ hs h => State.consistent_iff.mpr (consistent_keptByEvents.step (State.consistent_iff.mp hs) h)

/-! ### The state after reset (R22, R38, R142, R188) -/

theorem State.reset_portsBounded : State.reset.PortsBounded := by
  rw [State.PortsBounded, forSessions_iff]
  intro p
  rw [show State.reset.ports.get p = PortState.reset from PerSession.get_make _ p]
  exact ⟨by decide, by decide, rfl, rfl⟩

theorem State.reset_consistent : State.reset.Consistent :=
  State.consistent_iff.mpr
    ⟨⟨State.heldInReset_scanLegal State.reset, State.reset_tableFacts, .of_empty (fun _ => Vector.getElem_replicate _)⟩,
      heldInReset_plansLegal State.reset⟩

/-- Settles O55: everything is empty, IDLE and STOPPED, and the records hold their reset limits. -/
theorem resetMeetsTheInvariants : Obligations.ResetMeetsTheInvariants :=
  ⟨State.reset_portsBounded, State.reset_sessionsLegal, State.heldInReset_scanLegal State.reset,
    State.tableAgrees_iff.mpr State.reset_tableFacts, State.reset_consistent⟩

end Sys2Proof.Machine
end

section
/-! PROOFS. ATTACH, DETACH, SET_LIMITS, SUSPEND, RESUME and EVICT, state by state (R30 to R38). -/

namespace Sys2Proof.Machine

set_option Elab.async false

/-! ### The client that a byte names -/

theorem clientOf_of_eq {b : Byte} {n : Client} (h : b.toNat = n.val) : clientOf b = some n := by
  have hlt : b.toNat < 4 := by rw [h]; exact n.isLt
  rw [clientOf, dif_pos hlt]
  exact congrArg some (Fin.ext h)

theorem clientOf_beyond {b : Byte} (h : 3 < b.toNat) : clientOf b = none := dif_neg (by omega)

/-! ### ATTACH (R31) -/

theorem attachRequest_of_detached {n : Client} {s : State} (h : (s.sessions.get (.client n)).state = .detached) :
    attachRequest (.client n) s =
      ({ s with
          sessions := s.sessions.set (.client n)
            { s.sessions.get (.client n) with state := .attached, evicted := false } },
        okReply (.session
          { s.sessionReport (.client n) with state := .attached })) := by
  simp [attachRequest, h, State.mapSession, State.sessionReport, State.effectiveFrame, okReply]

theorem attachRequest_of_attached {n : Client} {s : State}
    (h : (s.sessions.get (.client n)).state = .attached ∨ (s.sessions.get (.client n)).state = .suspended) :
    attachRequest (.client n) s = sessionReply s .already (.client n) := by
  obtain h | h := h <;> simp [attachRequest, h]

theorem attachRequest_of_draining {n : Client} {s : State} (h : (s.sessions.get (.client n)).state = .draining) :
    attachRequest (.client n) s = refuse s .draining := by
  simp [attachRequest, h]

/-- Settles O6: the session's state picks the row of R31. -/
theorem attachByClientState : Obligations.AttachByClientState := by
  intro n q s hchoice r report
  have htaken {u : State} {y : Reply} := exec_taken (c := .attach (.client n) q) (u := u) (y := y) rfl hchoice (.inl rfl) (.inl nofun)
  refine ⟨fun h => htaken (attachRequest_of_detached h), fun h => ?_, fun h => htaken (attachRequest_of_draining h)⟩
  exact htaken (attachRequest_of_attached h)

/-! ### DETACH and EVICT (R32, R37) -/

/-- The departure as R32 spells it out, with the mark that DETACH keeps and EVICT sets. -/
theorem State.depart_departs {s u : State} {n : Client} {evicted : Bool}
    (hu : u = { s.depart (.client n) with
      sessions := s.sessions.set (.client n)
        { s.sessions.get (.client n) with state := .draining, pending := .drain, evicted := evicted } }) :
    s.Departs u n evicted (s.countRegions (fun r => decide (r.owner = .client n) && decide (r.state = .stagedNew)))
      (u.countRegions (fun r => decide (r.owner = .client n) && decide (r.state = .retiring))) := by
  have htable (k : Slot) : u.table[k] = departSlot (.client n) s.table[k] := by rw [hu]; exact s.depart_table n k
  have hshown (k : Slot) : u.shown[k] = (s.shown[k] && !s.ownedIn (.client n) .stagedNew k) := by
    rw [hu]; exact s.depart_shown n k
  have hcount (t : State) (st : RegionState) :
      t.countRegions (fun r => decide (r.owner = .client n) && decide (r.state = st)) =
        (slots.filter (fun k => t.table[k].any (fun r => decide (r.owner = .client n ∧ r.state = st)))).length := by
    simp only [Bool.decide_and]
    rfl
  refine ⟨by rw [hu]; rfl, by rw [hu]; rfl, fun k hk => ?_, fun k r hr ho => ?_, fun k r hr ho => ⟨fun hst => ?_,
      fun hst => ?_, fun hst => ?_⟩, ?_, by rw [hu],
    hcount s _, hcount u _⟩
  · rw [htable, hshown, State.ownedIn, hk]
    exact ⟨rfl, by simp⟩
  · rw [htable, hshown, State.ownedIn_of_some hr, hr, departSlot_of_other ho]
    exact ⟨rfl, by simp [ho]⟩
  · rw [htable, hshown, State.ownedIn_of_some hr, hr]
    exact ⟨by simp [departSlot, ho, hst], by simp [ho, hst]⟩
  · rw [htable, hshown, State.ownedIn_of_some hr, hr]
    obtain hst | hst := hst <;> exact ⟨by simp [departSlot, ho, hst, Region.retire], by simp [hst]⟩
  · rw [htable, hshown, State.ownedIn_of_some hr, hr]
    exact ⟨by simp [departSlot, ho, hst], by simp [hst]⟩
  · simp only [hu, State.depart, Bool.decide_and]
    rfl

theorem State.evictClient_eq (s : State) (n : Client) :
    s.evictClient n = { s.depart (.client n) with
      sessions := s.sessions.set (.client n)
        { s.sessions.get (.client n) with state := .draining, pending := .drain, evicted := true } } := by
  simp [State.evictClient, State.mapSession, State.depart, PerSession.set_set]

theorem detachRequest_of_attached {n : Client} {s : State}
    (h : (s.sessions.get (.client n)).state = .attached ∨ (s.sessions.get (.client n)).state = .suspended) :
    detachRequest (.client n) s = departureReply s (s.depart (.client n)) (.client n) := by
  obtain h | h := h <;> simp [detachRequest, h]

theorem evictRequest_of_attached {b : Byte} {n : Client} {s : State} (hb : b.toNat = n.val)
    (h : (s.sessions.get (.client n)).state = .attached ∨ (s.sessions.get (.client n)).state = .suspended) :
    evictRequest b s = departureReply s (s.evictClient n) (.client n) := by
  obtain h | h := h <;> simp [evictRequest, clientOf_of_eq hb, h]

theorem detachRequest_of_detached {n : Client} {s : State} (h : (s.sessions.get (.client n)).state = .detached) :
    detachRequest (.client n) s = refuse s .notAttached := by
  simp [detachRequest, h]

theorem detachRequest_of_draining {n : Client} {s : State} (h : (s.sessions.get (.client n)).state = .draining) :
    detachRequest (.client n) s = refuse s .draining := by
  simp [detachRequest, h]

theorem evictRequest_of_detached {b : Byte} {n : Client} {s : State} (hb : b.toNat = n.val)
    (h : (s.sessions.get (.client n)).state = .detached) : evictRequest b s = refuse s .notAttached := by
  simp [evictRequest, clientOf_of_eq hb, h]

theorem evictRequest_of_draining {b : Byte} {n : Client} {s : State} (hb : b.toNat = n.val)
    (h : (s.sessions.get (.client n)).state = .draining) : evictRequest b s = refuse s .draining := by
  simp [evictRequest, clientOf_of_eq hb, h]

theorem evictRequest_beyond {b : Byte} {s : State} (hb : 3 < b.toNat) : evictRequest b s = refuse s .badRequest := by
  simp [evictRequest, clientOf_beyond hb]

/-- Settles O7: both requests depart the client, and EVICT marks it. -/
theorem detachAndEvictDepart : Obligations.DetachAndEvictDepart := by
  refine ⟨?_, fun b q s hchoice => ?_⟩
  · intro n q s hchoice x
    have htaken {u : State} {y : Reply} := exec_taken (c := .detach x q) (u := u) (y := y) rfl hchoice (.inl rfl) (.inl nofun)
    exact ⟨fun h => ⟨_, _, _, State.depart_departs (by simp [State.depart, x]), htaken (detachRequest_of_attached h)⟩,
      fun h => htaken (detachRequest_of_detached h), fun h => htaken (detachRequest_of_draining h)⟩
  · have htaken {u : State} {y : Reply} :=
      exec_taken (c := .evict .sup q b) (u := u) (y := y) rfl hchoice (.inr rfl) (.inl nofun)
    refine ⟨fun hb => htaken (evictRequest_beyond hb), fun n hb => ?_⟩
    intro x
    exact ⟨fun h => ⟨_, _, _, State.depart_departs (s.evictClient_eq n), htaken (evictRequest_of_attached hb h)⟩,
      fun h => htaken (evictRequest_of_detached hb h), fun h => htaken (evictRequest_of_draining hb h)⟩

/-! ### SET_LIMITS (R30) -/

theorem limitsValid_iff {quota ceiling leaseMax : Byte} :
    limitsValid quota ceiling leaseMax = true ↔ quota.toNat ≤ 32 ∧ ceiling.toNat ≤ 15 ∧ 1 ≤ leaseMax.toNat := by
  simp only [limitsValid, Bool.and_eq_true, decide_eq_true_iff, and_assoc]
  refine and_congr Iff.rfl (and_congr Iff.rfl ?_)
  rw [Ne, ← BitVec.toNat_inj]
  show ¬ leaseMax.toNat = 0 ↔ _
  omega

section
variable {b quota ceiling leaseMax : Byte} {n : Client} {s : State} (hb : b.toNat = n.val)
include hb

theorem setLimitsRequest_of_invalid (h : ¬ (limitsValid quota ceiling leaseMax = true)) :
    setLimitsRequest b quota ceiling leaseMax s = refuse s .badRequest := by
  simp [setLimitsRequest, clientOf_of_eq hb, h]

variable (hvalid : limitsValid quota ceiling leaseMax = true)
include hvalid

theorem setLimitsRequest_of_active (h : (s.sessions.get (.client n)).state ≠ .detached) :
    setLimitsRequest b quota ceiling leaseMax s = refuse s .sessionActive := by
  simp [setLimitsRequest, clientOf_of_eq hb, hvalid, h]

theorem setLimitsRequest_of_conflict (h : (s.sessions.get (.client n)).state = .detached)
    (hsum : 56 < s.quotaSumWith n quota.toNat) :
    setLimitsRequest b quota ceiling leaseMax s = refuse s .limitsConflict := by
  have hsum : Config.quotaSumMax < s.quotaSumWith n quota.toNat := hsum
  simp [setLimitsRequest, clientOf_of_eq hb, hvalid, h, hsum]

theorem setLimitsRequest_of_fits (h : (s.sessions.get (.client n)).state = .detached)
    (hsum : s.quotaSumWith n quota.toNat ≤ 56) :
    setLimitsRequest b quota ceiling leaseMax s =
      sessionReply
        (s.mapSession (.client n) (fun r =>
          { r with quota := quota.toNat, ceiling := ceiling.toNat, leaseMax := leaseMax.toNat }))
        .ok (.client n) := by
  have hsum : ¬ Config.quotaSumMax < s.quotaSumWith n quota.toNat := not_lt.mpr hsum
  simp [setLimitsRequest, clientOf_of_eq hb, hvalid, h, hsum]

end

/-- Settles O8: the checks in R30's order, and the write. -/
theorem setLimitsInOrder : Obligations.SetLimitsInOrder := by
  intro b quota ceiling leaseMax q s r c hchoice valid
  have htaken {u : State} {y : Reply} := exec_taken (c := c) (u := u) (y := y) rfl hchoice (.inr rfl) (.inl nofun)
  refine ⟨fun hvalid => htaken ?_, fun n hb hvalid => ?_⟩
  · by_cases hb : 3 < b.toNat
    · show setLimitsRequest b quota ceiling leaseMax s = _
      simp [setLimitsRequest, clientOf_beyond hb]
    · refine setLimitsRequest_of_invalid (n := ⟨b.toNat, by omega⟩) rfl fun h => hvalid ⟨by omega, limitsValid_iff.mp h⟩
  · intro old sum new
    have hvalid := limitsValid_iff.mpr hvalid.2
    refine ⟨fun h => htaken (setLimitsRequest_of_active hb hvalid h),
      fun h hsum => htaken (setLimitsRequest_of_conflict hb hvalid h hsum), fun h hsum => ?_⟩
    rw [htaken (setLimitsRequest_of_fits hb hvalid h hsum)]
    simp [State.mapSession, State.sessionReport, State.effectiveFrame, new, old, okReply, h, r]

/-! ### SUSPEND and RESUME (R34 to R36) -/

theorem changePending_of_attached {b : Byte} {n : Client} {s : State} (f : SessionRecord → PendingChange) (hb : b.toNat = n.val)
    (h : (s.sessions.get (.client n)).state = .attached ∨ (s.sessions.get (.client n)).state = .suspended) :
    changePending b f s = sessionReply (s.mapSession (.client n) (fun r => { r with pending := f r })) .ok (.client n) := by
  obtain h | h := h <;> simp [changePending, clientOf_of_eq hb, h]

/-- Settles O9: the two requests differ in the pending change that a row of R34 gives. -/
theorem suspendAndResumeStageOrCancel : Obligations.SuspendAndResumeStageOrCancel := by
  intro b q s rows outcome cr hcr hchoice
  obtain ⟨f, htaken, hf⟩ : ∃ f : SessionRecord → PendingChange,
      (∀ {u : State} {y : Reply}, changePending b f s = (u, y) → exec cr.1 s = .next (u.answered .sup cr.2.1 y))
        ∧ ∀ n : Client, ∀ row ∈ rows, (s.sessions.get (.client n)).state = row.1 →
          (s.sessions.get (.client n)).pending = row.2.1 →
          f (s.sessions.get (.client n)) = if cr.2.2 then row.2.2.1 else row.2.2.2 := by
    simp only [List.mem_cons, List.not_mem_nil, or_false] at hcr
    obtain rfl | rfl := hcr
    · refine ⟨pendingAfterSuspend, fun h => exec_taken rfl hchoice (.inr rfl) (.inl nofun) h, fun n row hrow hst hp => ?_⟩
      simp only [rows, List.mem_cons, List.not_mem_nil, or_false] at hrow
      obtain rfl | rfl | rfl | rfl := hrow <;> simp [pendingAfterSuspend, hst, hp]
    · refine ⟨pendingAfterResume, fun h => exec_taken rfl hchoice (.inr rfl) (.inl nofun) h, fun n row hrow hst hp => ?_⟩
      simp only [rows, List.mem_cons, List.not_mem_nil, or_false] at hrow
      obtain rfl | rfl | rfl | rfl := hrow <;> simp [pendingAfterResume, hst, hp]
  refine ⟨fun hb => htaken ?_, fun n hb => ⟨fun h => htaken ?_, fun h => htaken ?_, fun row hrow hst hp => ?_⟩⟩
  · simp [changePending, clientOf_beyond hb]
  · simp [changePending, clientOf_of_eq hb, h]
  · simp [changePending, clientOf_of_eq hb, h]
  · have hactive : (s.sessions.get (.client n)).state = .attached ∨ (s.sessions.get (.client n)).state = .suspended := by
      rw [hst]
      simp only [rows, List.mem_cons, List.not_mem_nil, or_false] at hrow
      obtain rfl | rfl | rfl | rfl := hrow <;> simp
    rw [htaken (changePending_of_attached f hb hactive)]
    simp [outcome, State.mapSession, State.sessionReport, State.effectiveFrame, okReply, hf n row hrow hst hp]

end Sys2Proof.Machine
end

section
/-! PROOFS. OPEN, PIN and AMEND as lists of checks: each rule is refused by the first check of its list that fails (R51, R55, R56,
R58, R64). -/

namespace Sys2Proof.Machine

set_option Elab.async false

/-! ### A rule behind a list of checks -/

/-- A refusal, which raises STAGE_FULL where it is for want of pool space (R44, R50). -/
def State.refused (s : State) (c : ResultCode) : State × Reply := (if c = .stageFull then s.raise .stageFull else s, plainReply c)

/-- The outcome of a rule: refused by the first check that fails, else as given. -/
def State.checked (s : State) (l : List (Bool × ResultCode)) (y : State × Reply) : State × Reply :=
  ((firstFailure l).map s.refused).getD y

theorem State.checked_nil (s : State) (y : State × Reply) : s.checked [] y = y := rfl

theorem State.checked_cons (s : State) (b : Bool) (c : ResultCode) (l : List (Bool × ResultCode)) (y : State × Reply) :
    s.checked ((b, c) :: l) y = if b = true then s.refused c else s.checked l y := by
  cases b <;> rfl

theorem State.checked_of_failure {s : State} {l : List (Bool × ResultCode)} {c : ResultCode} (h : firstFailure l = some c)
    (y : State × Reply) : s.checked l y = s.refused c := by
  rw [State.checked, h]
  rfl

theorem State.checked_of_none {s : State} {l : List (Bool × ResultCode)} (h : firstFailure l = none) (y : State × Reply) :
    s.checked l y = y := by
  rw [State.checked, h]
  rfl

/-- Where no check fails each of them holds. -/
theorem firstFailure_eq_none {l : List (Bool × ResultCode)} (h : firstFailure l = none) : ∀ c ∈ l, c.1 = false := by
  induction l with
  | nil => exact nofun
  | cons c l ih =>
    obtain ⟨b, c⟩ := c
    cases b with
    | true => cases h
    | false => exact List.forall_mem_cons.mpr ⟨rfl, ih h⟩

/-! ### The single checks -/

theorem State.not_configured_decide (s : State) :
    (!s.configured) = decide (s.scan.width = 0 ∨ s.scan.height = 0) := by
  rw [Bool.eq_iff_iff, Bool.not_eq_true', State.not_configured_iff, decide_eq_true_iff]

theorem not_within_eq (s : State) (b : FieldBlock) :
    (!(blockRect b).within s.scan.width s.scan.height) =
      decide (b.x1.toNat ≤ b.x0.toNat ∨ b.y1.toNat ≤ b.y0.toNat ∨ s.scan.width < b.x1.toNat ∨ s.scan.height < b.y1.toNat) := by
  rw [Bool.eq_iff_iff, Bool.not_eq_true', ← Bool.not_eq_true, Rect.within_iff, decide_eq_true_iff]
  simp only [blockRect]
  omega

theorem State.poolFull_eq (s : State) : s.poolFull = decide (32 ≤ s.pool.length) := rfl

theorem State.claimOverlaps_eq (s : State) (self : Option Slot) (rect : Rect) (layer : Nat) :
    s.claimOverlaps self rect layer =
      slots.any (fun k => decide (self ≠ some k) && s.table[k].any (fun o =>
        !o.pinned && decide (o.state ≠ .retiring) && decide (s.prospectiveLayer k o = some layer)
          && (s.prospectiveRect k o).any (fun z => rect.overlaps z))) := by
  unfold State.claimOverlaps Region.reserves
  refine congrArg _ (funext fun k => congrArg _ ?_)
  cases hk : s.table[k] with
  | none => rfl
  | some o => cases hq : s.prospectiveRect k o <;> simp [hq]

/-! ### OPEN and PIN -/

/-- An OPEN whose checks have passed (R53). -/
def openAccepted (n : Client) (b : FieldBlock) (s : State) : State × Reply :=
  match s.lowestFree with
  | none => refuse s .quota
  | some k =>
    accept (s.createRegion k (.client n) b.tag .new (openFields b (grantedLease b.lease (s.sessions.get (.client n)).leaseMax)))
      (.opened k (grantedLease b.lease (s.sessions.get (.client n)).leaseMax) s.effectiveFrame)

theorem openClient_eq_checked (n : Client) (b : FieldBlock) (s : State) :
    openClient n b s = s.checked (openChecks n b s) (openAccepted n b s) := by
  have hoverlap := s.claimOverlaps_eq none (blockRect b) b.layer.toNat
  simp only [ne_eq, reduceCtorEq, not_false_eq_true, decide_true, Bool.true_and] at hoverlap
  unfold openClient openChecks
  simp only [State.checked_cons, State.checked_nil]
  cases hst : (s.sessions.get (.client n)).state with
  | detached => simp [State.sessionRefusal, hst, Access.refusal, State.refused]
  | suspended => simp [State.sessionRefusal, hst, Access.refusal, State.refused]
  | draining => simp [State.sessionRefusal, hst, Access.refusal, State.refused]
  | attached =>
    simp only [State.sessionRefusal, hst, Access.refusal, reduceCtorEq, decide_false, Bool.false_eq_true, if_false,
      State.not_configured_decide, findTag_isSome, not_within_eq, hoverlap, State.poolFull_eq, decide_eq_true_iff]
    rfl

/-- A PIN whose checks have passed (R65). -/
def pinAccepted (b : FieldBlock) (s : State) : State × Reply :=
  match s.lowestFree with
  | none => refuse s .pinLimit
  | some k => accept (s.createRegion k .sup b.tag .pin (pinFields b)) (.pinned k s.effectiveFrame)

theorem not_pinValid_iff {b : FieldBlock} :
    (!pinValid b) = true ↔
      b.tag = 0 ∨ 7 < b.rank.toNat ∨ (b.fill ≠ 0x00#8 ∧ b.fill ≠ 0x01#8)
        ∨ (b.fill = 0x00#8 ∧ (b.mask.getLsbD 5 = false ∨ 3 < b.stream.toNat ∨ b.mask.getLsbD 6 = true))
        ∨ (b.fill = 0x01#8 ∧ (b.mask.getLsbD 6 = false ∨ b.mask.getLsbD 5 = true))
        ∨ b.mask.getLsbD 1 = true ∨ b.mask.getLsbD 3 = true ∨ b.mask.getLsbD 7 = true ∨ b.mask.getLsbD 8 = true := by
  have hrank : Config.rankMax = 7 := rfl
  have hstream : Config.streamMax = 3 := rfl
  unfold pinValid bitSet
  obtain ⟨h, hb⟩ | ⟨h, hb⟩ | ⟨h, hb⟩ := fillOf_eq b.fill
  · rw [h]
    simp [hb, hrank, hstream]
    tauto
  · rw [h]
    simp [hb, hrank]
    tauto
  · obtain ⟨h0, h1⟩ := hb
    have h0 : ¬ b.fill = 0#8 := h0
    have h1 : ¬ b.fill = 1#8 := h1
    rw [h]
    simp [h0, h1]

theorem pinRequest_eq_checked (b : FieldBlock) (s : State) :
    pinRequest b s = s.checked (pinChecks b s) (pinAccepted b s) := by
  have hcount : s.pinnedCount = (slots.filter (fun k => s.table[k].any (fun o => decide (o.owner = .sup)))).length := rfl
  have hrank : s.rankHeld b.rank.toNat = slots.any (fun k => s.table[k].any (fun o =>
      decide (o.owner = .sup) && decide (s.rankOf k o = some b.rank.toNat))) := rfl
  unfold pinRequest pinChecks
  simp only [State.checked_cons, State.checked_nil, State.not_configured_decide, findTag_isSome, not_within_eq, hrank, hcount,
    State.poolFull_eq, decide_eq_true_iff, not_pinValid_iff]
  rfl

/-- Settles O12: either rule is its list of checks. -/
theorem openAndPinChecksInOrder : Obligations.OpenAndPinChecksInOrder := by
  refine ⟨fun n q b s => ?_, fun q b s => ?_⟩
  · intro r hchoice code hcode
    exact exec_taken (c := .openRegion (.client n) q b) rfl hchoice (.inl rfl) (.inl nofun)
      ((openClient_eq_checked n b s).trans (State.checked_of_failure hcode _))
  · intro r hchoice code hcode
    exact exec_taken (c := .pin .sup q b) rfl hchoice (.inr rfl) (.inl nofun)
      ((pinRequest_eq_checked b s).trans (State.checked_of_failure hcode _))

/-! ### AMEND -/

/-- The mask marks no field where its nine bits are clear. -/
theorem extract_mask_eq_zero {m : Word16} :
    m.extractLsb' 0 9 = 0 ↔
      (m.getLsbD 0 || m.getLsbD 1 || m.getLsbD 2 || m.getLsbD 3 || m.getLsbD 4 || m.getLsbD 5 || m.getLsbD 6 || m.getLsbD 7
        || m.getLsbD 8) = false := by
  constructor
  · intro h
    have hbit (i : Nat) (hi : i < 9) : m.getLsbD i = false := by
      have := congrArg (fun v => v.getLsbD i) h
      simpa [hi] using this
    simp only [hbit, Nat.reduceLT, Bool.or_self]
  · intro h
    simp only [Bool.or_eq_false_iff] at h
    obtain ⟨⟨⟨⟨⟨⟨⟨⟨h0, h1⟩, h2⟩, h3⟩, h4⟩, h5⟩, h6⟩, h7⟩, h8⟩ := h
    refine BitVec.eq_of_getLsbD_eq fun i hi => ?_
    have hbit : m.getLsbD i = false := by interval_cases i <;> assumption
    rw [BitVec.getLsbD_extractLsb', Nat.zero_add, hbit, Bool.and_false]
    exact (BitVec.getLsbD_zero).symm

/-- A fill byte, colour and prospective fill that an AMEND is refused for whoever sends it. -/
theorem not_amendFillValid (b : FieldBlock) (held : Option Fill) :
    (!amendFillValid b held) =
      if b.mask.getLsbD 4 then
        decide (b.fill ≠ 0x00#8 ∧ b.fill ≠ 0x01#8) || (decide (b.fill = 0x01#8) && !b.mask.getLsbD 6)
          || (decide (b.fill = 0x00#8) && b.mask.getLsbD 6)
      else b.mask.getLsbD 6 && decide (held = some .source) := by
  unfold amendFillValid bitSet
  cases b.mask.getLsbD 4 with
  | false => simp
  | true =>
    obtain ⟨h, hb⟩ | ⟨h, hb⟩ | ⟨h, h0, h1⟩ := fillOf_eq b.fill
    · rw [h]; simp [hb]
    · rw [h]; simp [hb]
    · rw [h]
      have h0 : ¬ b.fill = 0#8 := h0
      have h1 : ¬ b.fill = 1#8 := h1
      simp [h0, h1]

theorem not_amendStreamValid (b : FieldBlock) (held : Option Fill) (h : amendFillValid b held = true) :
    (!amendStreamValid b held) =
      ((b.mask.getLsbD 5 && decide (3 < b.stream.toNat))
        || (if b.mask.getLsbD 4 then
              (decide (b.fill = 0x00#8) && !b.mask.getLsbD 5) || (decide (b.fill = 0x01#8) && b.mask.getLsbD 5)
            else b.mask.getLsbD 5 && decide (held = some .solid))) := by
  have hmax : Config.streamMax = 3 := rfl
  unfold amendFillValid bitSet at h
  unfold amendStreamValid bitSet
  rw [hmax, Bool.not_and, Bool.not_not]
  refine congrArg _ ?_
  cases h4 : b.mask.getLsbD 4 with
  | false => simp
  | true =>
    rw [h4] at h
    obtain ⟨hf, hb⟩ | ⟨hf, hb⟩ | ⟨hf, -⟩ := fillOf_eq b.fill
    · rw [hf]; simp [hb]
    · rw [hf]; simp [hb]
    · rw [hf] at h
      cases h

/-- What an AMEND is refused for at its field-validity step, as `amendChecks` lists it (R56, R58). -/
def amendBad (p : Port) (b : FieldBlock) (held : Option Fill) : Bool :=
  let bit (n : Nat) : Bool := b.mask.getLsbD n
  let badFill : Bool :=
    if bit 4 then
      decide (b.fill ≠ 0x00#8 ∧ b.fill ≠ 0x01#8) || (decide (b.fill = 0x01#8) && !bit 6)
        || (decide (b.fill = 0x00#8) && bit 6)
    else bit 6 && decide (held = some .source)
  let badStream : Bool :=
    (bit 5 && decide (3 < b.stream.toNat))
      || (if bit 4 then (decide (b.fill = 0x00#8) && !bit 5) || (decide (b.fill = 0x01#8) && bit 5)
          else bit 5 && decide (held = some .solid))
  let noField := !(bit 0 || bit 1 || bit 2 || bit 3 || bit 4 || bit 5 || bit 6 || bit 7 || bit 8)
  noField || (bit 7 && bit 8) || badFill
    || (if decide (p ≠ .sup) then (bit 1 && decide (15 < b.layer.toNat)) || (bit 3 && decide (b.lease = 0)) || bit 5 || bit 2
        else bit 1 || bit 2 || bit 3 || bit 7 || bit 8 || badStream)

theorem not_amendMaskValid (b : FieldBlock) :
    (!amendMaskValid b) =
      (!(b.mask.getLsbD 0 || b.mask.getLsbD 1 || b.mask.getLsbD 2 || b.mask.getLsbD 3 || b.mask.getLsbD 4 || b.mask.getLsbD 5
          || b.mask.getLsbD 6 || b.mask.getLsbD 7 || b.mask.getLsbD 8)
        || (b.mask.getLsbD 7 && b.mask.getLsbD 8)) := by
  have hzero : (!decide (b.mask.extractLsb' 0 9 ≠ 0)) =
      !(b.mask.getLsbD 0 || b.mask.getLsbD 1 || b.mask.getLsbD 2 || b.mask.getLsbD 3 || b.mask.getLsbD 4 || b.mask.getLsbD 5
          || b.mask.getLsbD 6 || b.mask.getLsbD 7 || b.mask.getLsbD 8) := by
    rw [Bool.eq_iff_iff, Bool.not_eq_true', Bool.not_eq_true', decide_eq_false_iff_not, not_not]
    exact extract_mask_eq_zero
  unfold amendMaskValid bitSet
  rw [Bool.not_and, Bool.not_not, hzero]

theorem not_amendValid (p : Port) (b : FieldBlock) (held : Option Fill) : (!amendValid p b held) = amendBad p b held := by
  have hmask := not_amendMaskValid b
  have hfill := not_amendFillValid b held
  unfold amendBad amendValid
  cases p with
  | client n =>
    simp only [ne_eq, reduceCtorEq, not_false_eq_true, decide_true, if_true]
    rw [amendValidClient, Bool.not_and, Bool.not_and, Bool.not_and, Bool.not_and, Bool.not_and, hmask, hfill]
    simp only [Bool.not_not, bitSet, show Config.layerMax = 15 from rfl]
    ac_rfl
  | sup =>
    simp only [ne_eq, not_true_eq_false, decide_false, Bool.false_eq_true, if_false]
    by_cases hf : amendFillValid b held = true
    · have hstream := not_amendStreamValid b held hf
      rw [amendValidPinned, Bool.not_and, Bool.not_and, Bool.not_and, Bool.not_and, Bool.not_and, Bool.not_and, Bool.not_and, hmask,
        hfill, hstream]
      simp only [Bool.not_not, bitSet]
      ac_rfl
    · rw [Bool.not_eq_true] at hf
      rw [hf, Bool.not_false] at hfill
      rw [← hfill]
      simp [amendValidPinned, hf]

/-- The overlap check of an AMEND that carries a rectangle or a layer (R54, R55). -/
theorem State.amendOverlaps_eq (s : State) (k : Slot) (g : Region) (f : StagedFields) :
    s.amendOverlaps k g f =
      ((f.rect.isSome || f.layer.isSome) && slots.any (fun j => decide (j ≠ k) && s.table[j].any (fun o =>
        !o.pinned && decide (o.state ≠ .retiring)
          && decide ((f.layer.or (s.prospectiveLayer k g)).isSome = true
              ∧ s.prospectiveLayer j o = f.layer.or (s.prospectiveLayer k g))
          && (f.rect.or (s.prospectiveRect k g)).any (fun a => (s.prospectiveRect j o).any (fun z => a.overlaps z))))) := by
  have hcarried : (f.rect.isNone && f.layer.isNone) = !(f.rect.isSome || f.layer.isSome) := by
    rw [Bool.not_or, Option.not_isSome, Option.not_isSome]
  unfold State.amendOverlaps
  rw [hcarried]
  cases f.rect.isSome || f.layer.isSome with
  | false => rfl
  | true =>
    rw [if_neg (by simp), Bool.true_and]
    have hself (j : Slot) : decide (some k ≠ some j) = decide (j ≠ k) := by simp [eq_comm]
    cases hr : f.rect.or (s.prospectiveRect k g) with
    | none => simp
    | some a =>
      cases hl : f.layer.or (s.prospectiveLayer k g) with
      | none => simp
      | some l =>
        simp only [State.claimOverlaps_eq, hself, Option.isSome_some, true_and, Option.any_some]

theorem clampedFields_rect (b : FieldBlock) (m : Nat) :
    (clampedFields b m).rect = if b.mask.getLsbD 0 then some (blockRect b) else none := rfl

theorem clampedFields_layer (b : FieldBlock) (m : Nat) :
    (clampedFields b m).layer = if b.mask.getLsbD 1 then some b.layer.toNat else none := rfl

/-- An AMEND whose checks have passed (R57). -/
def amendAccepted (p : Port) (b : FieldBlock) (k : Slot) (s : State) : State × Reply :=
  accept (s.stageAmend k (clampedFields b (s.sessions.get p).leaseMax))
    (.amended k (clampedFields b (s.sessions.get p).leaseMax).lease (s.entryFor k).isSome s.effectiveFrame)

/-- The checks of an AMEND once the state of its region has passed. -/
def amendFieldChecks (p : Port) (b : FieldBlock) (k : Slot) (g : Region) (s : State) : List (Bool × ResultCode) :=
  (amendChecks p b k g s).drop 6

theorem amendChecks_eq (p : Port) (b : FieldBlock) (k : Slot) (g : Region) (s : State) :
    amendChecks p b k g s =
      (decide (p ≠ .sup) && decide ((s.sessions.get p).state = .detached), .notAttached)
        :: (decide (p ≠ .sup) && decide ((s.sessions.get p).state = .suspended), .suspended)
        :: (decide (p ≠ .sup) && decide ((s.sessions.get p).state = .draining), .draining)
        :: (decide (b.tag = 0), .badRequest) :: (decide (g.state = .lapsed), .lapsed)
        :: (decide (g.state = .retiring), .retiring) :: amendFieldChecks p b k g s := rfl

theorem amendChecked_eq_checked (p : Port) (b : FieldBlock) (k : Slot) (g : Region) (s : State) :
    amendChecked p b k g s = s.checked (amendFieldChecks p b k g s) (amendAccepted p b k s) := by
  have hrect : ((clampedFields b (s.sessions.get p).leaseMax).rect.any (fun q => !q.within s.scan.width s.scan.height)) =
      (b.mask.getLsbD 0 && decide (b.x1.toNat ≤ b.x0.toNat ∨ b.y1.toNat ≤ b.y0.toNat ∨ s.scan.width < b.x1.toNat
        ∨ s.scan.height < b.y1.toNat)) := by
    rw [clampedFields_rect]
    cases b.mask.getLsbD 0 with
    | false => rfl
    | true => exact not_within_eq s b
  have hlayer : (decide (p ≠ .sup) && (clampedFields b (s.sessions.get p).leaseMax).layer.any
        (fun l => decide ((s.sessions.get p).ceiling < l))) =
      (decide (p ≠ .sup) && b.mask.getLsbD 1 && decide ((s.sessions.get p).ceiling < b.layer.toNat)) := by
    rw [clampedFields_layer, Bool.and_assoc]
    cases b.mask.getLsbD 1 <;> rfl
  have hoverlap : (decide (p ≠ .sup) && s.amendOverlaps k g (clampedFields b (s.sessions.get p).leaseMax)) =
      (decide (p ≠ .sup) && (b.mask.getLsbD 0 || b.mask.getLsbD 1) && slots.any (fun j => decide (j ≠ k) && s.table[j].any
        (fun o => !o.pinned && decide (o.state ≠ .retiring)
          && decide ((if b.mask.getLsbD 1 then some b.layer.toNat else s.prospectiveLayer k g).isSome = true
              ∧ s.prospectiveLayer j o = if b.mask.getLsbD 1 then some b.layer.toNat else s.prospectiveLayer k g)
          && (if b.mask.getLsbD 0 then some (blockRect b) else s.prospectiveRect k g).any
              (fun a => (s.prospectiveRect j o).any (fun z => a.overlaps z))))) := by
    rw [State.amendOverlaps_eq, clampedFields_rect, clampedFields_layer, Bool.and_assoc]
    cases b.mask.getLsbD 0 <;> cases b.mask.getLsbD 1 <;> rfl
  unfold amendChecked amendFieldChecks amendChecks
  simp only [List.drop_succ_cons, List.drop_zero, State.checked_cons, State.checked_nil]
  refine if_congr (Bool.eq_iff_iff.mp (not_amendValid p b _)) rfl (if_congr (Bool.eq_iff_iff.mp hrect) rfl
    (if_congr (Bool.eq_iff_iff.mp hlayer) rfl (if_congr (Bool.eq_iff_iff.mp hoverlap) rfl (if_congr Iff.rfl rfl rfl))))

/-- Over a region that its tag names, an AMEND is its list of checks. -/
theorem amendRequest_eq_checked {p : Port} {b : FieldBlock} {k : Slot} {g : Region} {s : State}
    (htag : b.tag ≠ 0 → s.regionByTag p b.tag = .ok (k, g)) :
    amendRequest p b s = s.checked (amendChecks p b k g s) (amendAccepted p b k s) := by
  have hnamed (h : s.sessionRefusal p .change = none) :
      amendRequest p b s =
        s.checked ((decide (b.tag = 0), .badRequest) :: (decide (g.state = .lapsed), .lapsed)
          :: (decide (g.state = .retiring), .retiring) :: amendFieldChecks p b k g s) (amendAccepted p b k s) := by
    unfold amendRequest
    simp only [h, State.checked_cons, decide_eq_true_iff]
    by_cases h0 : b.tag = 0
    · simp only [h0, if_true, State.regionByTag]
      rfl
    · simp only [htag h0, h0, if_false]
      cases hst : g.state with
      | lapsed => simp [State.refused]
      | retiring => simp [State.refused]
      | stagedNew => simp [amendChecked_eq_checked]
      | live => simp [amendChecked_eq_checked]
  rw [amendChecks_eq]
  cases p with
  | sup =>
    rw [hnamed rfl]
    simp [State.checked_cons]
  | client n =>
    cases hst : (s.sessions.get (.client n)).state with
    | attached =>
      rw [hnamed (by simp [State.sessionRefusal, hst, Access.refusal])]
      simp [State.checked_cons]
    | detached => simp [State.checked_cons, amendRequest, State.sessionRefusal, hst, Access.refusal, State.refused]
    | suspended => simp [State.checked_cons, amendRequest, State.sessionRefusal, hst, Access.refusal, State.refused]
    | draining => simp [State.checked_cons, amendRequest, State.sessionRefusal, hst, Access.refusal, State.refused]

/-! ### The region that a tag names -/

theorem findTag_of_mem {m : List TagEntry} (hm : orderedMap m) {e : TagEntry} (he : e ∈ m) : findTag m e.tag = some e := by
  cases hf : findTag m e.tag with
  | none => exact absurd rfl (findTag_eq_none.mp hf e he)
  | some f =>
    have htag : f.tag = e.tag := by simpa using List.find?_some hf
    rw [entry_eq_of_tag_eq hm (List.mem_of_find?_eq_some hf) he htag]

theorem State.regionByTag_of_mem {s : State} {x : Session} {e : TagEntry} {k : Slot} {g : Region}
    (hm : orderedMap (s.tagMaps.get x)) (he : e ∈ s.tagMaps.get x) (hk : e.slot = some k) (hg : s.table[k] = some g) :
    s.regionByTag x e.tag = .ok (k, g) := by
  unfold State.regionByTag
  rw [if_neg (hm.2 e he), findTag_of_mem hm he]
  simp only [hk, hg]

/-- Settles O15: the rule is its list of checks over the region that the tag names. -/
theorem amendChecksInOrder : Obligations.AmendChecksInOrder := by
  intro p q b e k g s r hchoice hm he htag hk hg code hcode
  have hregion := State.regionByTag_of_mem hm he hk hg
  rw [htag] at hregion
  exact exec_taken (c := .amend p q b) rfl hchoice (.inl rfl) (.inl nofun)
    ((amendRequest_eq_checked fun _ => hregion).trans (State.checked_of_failure hcode _))

end Sys2Proof.Machine
end

section
/-! PROOFS. What OPEN, PIN and AMEND do once their checks have passed (R53, R57, R65). -/

namespace Sys2Proof.Machine

set_option Elab.async false

theorem State.lowestFree_of_least {s : State} {k : Slot} (hfree : s.table[k] = none)
    (hleast : ∀ j : Slot, j < k → s.table[j].isSome = true) : s.lowestFree = some k := by
  refine find_slots_eq_some.mpr ⟨by rw [hfree]; rfl, fun j hj => ?_⟩
  rw [← Option.not_isSome, hleast j hj]
  rfl

/-- A region created, beside what a Tag Map with an entry more is (R17, R19). -/
theorem State.createRegion_spec (s : State) (k : Slot) (x : Session) (tag : Word16) (kind : EntryKind) (f : StagedFields)
    (htag : tag ≠ 0) (hnew : findTag (s.tagMaps.get x) tag = none) :
    let u := s.createRegion k x tag kind f
    u = { s with table := u.table, pool := u.pool, tagMaps := u.tagMaps }
      ∧ u.table = s.table.set k (some (newRegion x tag))
      ∧ u.pool = s.pool ++ [{ slot := k, kind := kind, fields := f }]
      ∧ u.tagMaps = s.tagMaps.set x (u.tagMaps.get x)
      ∧ (u.tagMaps.get x).Perm ({ tag := tag, slot := some k, notices := NoticeSet.empty } :: s.tagMaps.get x)
      ∧ (orderedMap (s.tagMaps.get x) → orderedMap (u.tagMaps.get x)) := by
  intro u
  have hmaps : u.tagMaps.get x = insertTag { tag := tag, slot := some k, notices := NoticeSet.empty } (s.tagMaps.get x) :=
    PerSession.get_set_self _ _ _
  refine ⟨rfl, rfl, rfl, by rw [hmaps]; rfl, ?_, fun hm => ?_⟩
  · rw [hmaps]
    exact insertTag_perm _ _
  · rw [hmaps]
    exact insertTag_ordered hm htag (findTag_eq_none.mp hnew)

theorem findTag_eq_none_of_any {m : List TagEntry} {t : Word16} (h : m.any (fun e => decide (e.tag = t)) = false) :
    findTag m t = none := by
  rw [← findTag_isSome] at h
  simpa using h

/-- The fill of a valid OPEN, and the colour that goes with it (R52). -/
theorem openValid_fill {b : FieldBlock} (h : openValid b = true) :
    fillOf b.fill = some (if b.fill = 0x01#8 then .solid else .source)
      ∧ carried (bitSet b 6) b.colour = if b.fill = 0x01#8 then some b.colour else none := by
  unfold openValid at h
  obtain ⟨hf, hb⟩ | ⟨hf, hb⟩ | ⟨hf, -⟩ := fillOf_eq b.fill
  · rw [hf] at h ⊢
    have h6 : bitSet b 6 = false := by simpa using (Bool.and_eq_true_iff.mp h).2
    simp [hb, h6, carried]
  · rw [hf] at h ⊢
    have h6 : bitSet b 6 = true := (Bool.and_eq_true_iff.mp h).2
    simp [hb, h6, carried]
  · rw [hf] at h
    simp at h

theorem pinValid_fill {b : FieldBlock} (h : pinValid b = true) :
    fillOf b.fill = some (if b.fill = 0x01#8 then .solid else .source)
      ∧ carried (bitSet b 5) b.stream.toNat = (if b.fill = 0x01#8 then none else some b.stream.toNat)
      ∧ carried (bitSet b 6) b.colour = if b.fill = 0x01#8 then some b.colour else none := by
  unfold pinValid at h
  obtain ⟨hf, hb⟩ | ⟨hf, hb⟩ | ⟨hf, -⟩ := fillOf_eq b.fill
  · rw [hf] at h ⊢
    obtain ⟨⟨h5, -⟩, h6⟩ : (bitSet b 5 = true ∧ b.stream.toNat ≤ Config.streamMax) ∧ bitSet b 6 = false := by
      simpa using (Bool.and_eq_true_iff.mp h).2
    simp [hb, h5, h6, carried]
  · rw [hf] at h ⊢
    obtain ⟨h6, h5⟩ : bitSet b 6 = true ∧ bitSet b 5 = false := by simpa using (Bool.and_eq_true_iff.mp h).2
    simp [hb, h5, h6, carried]
  · rw [hf] at h
    simp at h

/-- Settles O13: the accepted OPEN creates the region in the lowest FREE slot. -/
theorem openCreatesAStagedRegion : Obligations.OpenCreatesAStagedRegion := by
  intro n q b k s x r lease hchoice hchecks hfree hleast
  have hrule : openClient n b s = openAccepted n b s :=
    (openClient_eq_checked n b s).trans (State.checked_of_none hchecks _)
  have haccepted : openAccepted n b s =
      accept (s.createRegion k x b.tag .new (openFields b lease)) (.opened k lease s.effectiveFrame) := by
    unfold openAccepted
    rw [State.lowestFree_of_least hfree hleast]
    rfl
  have hpassed := firstFailure_eq_none hchecks
  have hvalid : openValid b = true := by
    simpa using hpassed (!openValid b, .badRequest) (by simp [openChecks])
  have htag : findTag (s.tagMaps.get x) b.tag = none :=
    findTag_eq_none_of_any (hpassed ((s.tagMaps.get x).any (fun e => decide (e.tag = b.tag)), .tagInUse) (by simp [openChecks, x]))
  obtain ⟨hu, htable, hpool, hmaps, hperm, hordered⟩ :=
    s.createRegion_spec k x b.tag .new (openFields b lease) (openValid_tag hvalid) htag
  obtain ⟨hfill, hcolour⟩ := openValid_fill hvalid
  refine ⟨s.createRegion k x b.tag .new (openFields b lease),
    exec_taken (c := .openRegion x q b) rfl hchoice (.inl rfl) (.inl nofun) (hrule.trans haccepted), hu, htable, ?_, hmaps,
        hperm, hordered⟩
  rw [hpool, openFields, hfill, hcolour]
  rfl

/-- Settles O14: the accepted PIN creates the region in the lowest FREE slot. -/
theorem pinCreatesAStagedRegion : Obligations.PinCreatesAStagedRegion := by
  intro q b k s r hchoice hchecks hfree hleast
  have hrule : pinRequest b s = pinAccepted b s := (pinRequest_eq_checked b s).trans (State.checked_of_none hchecks _)
  have haccepted : pinAccepted b s = accept (s.createRegion k .sup b.tag .pin (pinFields b)) (.pinned k s.effectiveFrame) := by
    unfold pinAccepted
    rw [State.lowestFree_of_least hfree hleast]
  have hpassed := firstFailure_eq_none hchecks
  have hvalid : pinValid b = true := by
    by_contra h
    have hbad := not_pinValid_iff.mp (by simpa using h)
    have hcheck := hpassed _ (show _ ∈ pinChecks b s from List.mem_cons_of_mem _ List.mem_cons_self)
    exact (of_decide_eq_false hcheck) hbad
  have htag : findTag (s.tagMaps.get .sup) b.tag = none :=
    findTag_eq_none_of_any (hpassed ((s.tagMaps.get .sup).any (fun e => decide (e.tag = b.tag)), .tagInUse) (by simp [pinChecks]))
  obtain ⟨hu, htable, hpool, hmaps, hperm, hordered⟩ :=
    s.createRegion_spec k .sup b.tag .pin (pinFields b) (pinValid_tag hvalid) htag
  obtain ⟨hfill, hstream, hcolour⟩ := pinValid_fill hvalid
  refine ⟨s.createRegion k .sup b.tag .pin (pinFields b),
    exec_taken (c := .pin .sup q b) rfl hchoice (.inr rfl) (.inl nofun) (hrule.trans haccepted), hu, htable, ?_, hmaps,
        hperm, hordered⟩
  rw [hpool, pinFields, hfill, hstream, hcolour]
  rfl

/-! ### AMEND (R47, R57) -/

/-- No valid AMEND carries a stream beside SOLID (R56). -/
theorem amendFields_stream_of_solid {p : Port} {b : FieldBlock} {held : Option Fill} (h : amendValid p b held = true)
    (hf : (amendFields b).fill = some .solid) : (amendFields b).stream = none := by
  have hfill : bitSet b 4 = true ∧ fillOf b.fill = some .solid := by
    simp only [amendFields] at hf
    split at hf
    · exact ⟨‹_›, hf⟩
    · cases hf
  refine carried_eq_none.mpr ?_
  cases p with
  | client n =>
    simp only [amendValid, amendValidClient, Bool.and_eq_true, Bool.not_eq_true'] at h
    obtain ⟨⟨-, h5⟩, -⟩ := h
    exact h5
  | sup =>
    simp only [amendValid, amendValidPinned, amendStreamValid, Bool.and_eq_true, hfill.1, hfill.2, if_true, Bool.not_eq_true'] at h
    obtain ⟨-, -, h5⟩ := h
    exact h5

theorem amendFill_of_valid {p : Port} {b : FieldBlock} {held : Option Fill} (h : amendValid p b held = true) :
    amendFillValid b held = true := by
  cases p with
  | client n =>
    simp only [amendValid, amendValidClient, Bool.and_eq_true] at h
    obtain ⟨⟨⟨-, hfill⟩, -⟩, -⟩ := h
    exact hfill
  | sup =>
    simp only [amendValid, amendValidPinned, Bool.and_eq_true] at h
    obtain ⟨⟨-, hfill⟩, -⟩ := h
    exact hfill

/-- The fill byte of a valid AMEND that marks it (R200 note 2). -/
theorem amendFields_fill_of_valid {b : FieldBlock} {held : Option Fill} (h : amendFillValid b held = true) :
    (amendFields b).fill =
      if b.mask.getLsbD 4 then (if b.fill = 0x01#8 then some .solid else some .source) else none := by
  unfold amendFillValid at h
  show (if bitSet b 4 then fillOf b.fill else none) = _
  change (if bitSet b 4 then fillOf b.fill else none) = if bitSet b 4 then _ else none
  split at h
  · next h4 =>
    rw [if_pos h4, if_pos h4]
    obtain ⟨hf, hb⟩ | ⟨hf, hb⟩ | ⟨hf, -⟩ := fillOf_eq b.fill
    · rw [hf]; simp [hb]
    · rw [hf]; simp [hb]
    · rw [hf] at h
      cases h
  · next h4 => rw [if_neg h4, if_neg h4]

/-- A merge with a stream that no SOLID has beside it, and a colour that no SOURCE has (R47). -/
theorem StagedFields.merge_eq {kind : EntryKind} {old new : StagedFields} (hsolid : new.fill = some .solid → new.stream = none)
    (hsource : new.fill = some .source → new.colour = none) :
    old.merge kind new =
      { rect := if new.rect.isSome then new.rect else old.rect
        layer := if new.layer.isSome then new.layer else old.layer
        rank := old.rank
        lease := if new.lease.isSome then new.lease else old.lease
        fill := if new.fill.isSome then new.fill else old.fill
        stream := if new.fill.isSome ∨ new.stream.isSome then new.stream else old.stream
        colour := if new.fill.isSome ∨ new.colour.isSome then new.colour else old.colour
        fallback :=
          match new.fallback with
          | .untouched => old.fallback
          | .set c => .set c
          | .remove => if kind = .new then .untouched else .remove } := by
  have hor {α : Type} (a b : Option α) : a.or b = if a.isSome then a else b := by cases a <;> rfl
  unfold StagedFields.merge
  simp only [hor]
  cases hf : new.fill with
  | none => cases new.stream <;> cases new.colour <;> simp <;> rfl
  | some v =>
    cases v with
    | solid => simp [hsolid hf] <;> rfl
    | source => simp [hsource hf] <;> rfl

theorem StagedFields.merge_into_empty {f : StagedFields} (hsolid : f.fill = some .solid → f.stream = none)
    (hsource : f.fill = some .source → f.colour = none) (hrank : f.rank = none) : StagedFields.empty.merge .amend f = f := by
  have hkeep {α : Type} (a : Option α) : (if a.isSome then a else none) = a := by cases a <;> rfl
  have hkeep' {α β : Type} (a : Option α) (c : Option β) : (if c.isSome ∨ a.isSome then a else none) = a := by
    cases a <;> simp
  obtain ⟨rect, layer, rank, lease, fill, stream, colour, fallback⟩ := f
  rw [StagedFields.merge_eq hsolid hsource]
  dsimp only at hrank
  simp only [StagedFields.empty, hkeep, hkeep', hrank]
  cases fallback <;> rfl

/-- Settles O16: the accepted AMEND carries the marked fields and merges them, or stages them anew. -/
theorem amendStagesOrMerges : Obligations.AmendStagesOrMerges := by
  intro p q b e k g s r sess bit f merged hchoice hm he htag hk hg hchecks
  have hregion := State.regionByTag_of_mem hm he hk hg
  rw [htag] at hregion
  have hrule := (amendRequest_eq_checked fun _ => hregion).trans (State.checked_of_none hchecks (amendAccepted p b k s))
  have hvalid : amendValid p b (s.prospectiveFill k g) = true := by
    have hbad : amendBad p b (s.prospectiveFill k g) = false :=
      firstFailure_eq_none hchecks _ (show (_, ResultCode.badRequest) ∈ amendChecks p b k g s from
        List.mem_of_getElem? (i := 6) rfl)
    rw [← not_amendValid] at hbad
    simpa using hbad
  have hfills := amendFill_of_valid hvalid
  have hf : clampedFields b sess.leaseMax = f := by
    have hfill := amendFields_fill_of_valid hfills
    have hlease : (carried (bitSet b 3) b.lease.toNat).map (fun l => min l sess.leaseMax) =
        if b.mask.getLsbD 3 then some (min b.lease.toNat sess.leaseMax) else none := by
      rw [bitSet]
      cases b.mask.getLsbD 3 <;> rfl
    have hsame : clampedFields b sess.leaseMax =
        { clampedFields b sess.leaseMax with
          lease := (carried (bitSet b 3) b.lease.toNat).map (fun l => min l sess.leaseMax), fill := (amendFields b).fill } := rfl
    rw [hsame, hlease, hfill]
    rfl
  have hsolid : f.fill = some .solid → f.stream = none := by
    rw [← hf]
    exact amendFields_stream_of_solid hvalid
  have hsource : f.fill = some .source → f.colour = none := by
    rw [← hf]
    exact (amendFill_facts hfills).1
  have htaken {u : State} {y : Reply} (h : amendAccepted p b k s = (u, y)) : exec (.amend p q b) s = .next (u.answered p r y) :=
    exec_taken (c := .amend p q b) rfl hchoice (.inl rfl) (.inl nofun) (hrule.trans h)
  have haccepted : amendAccepted p b k s = accept (s.stageAmend k f) (.amended k f.lease (s.entryFor k).isSome s.effectiveFrame) := by
    rw [← hf]
    rfl
  refine ⟨fun hstands => htaken ?_, fun hnone => htaken ?_⟩
  · obtain ⟨z, hz⟩ := Option.isSome_iff_exists.mp hstands
    rw [haccepted, hstands, State.stageAmend, hz]
    have hmerge (z : PoolEntry) : z.fields.merge z.kind f = merged z := StagedFields.merge_eq hsolid hsource
    simp only [State.restage, hmerge]
    rfl
  · rw [haccepted, hnone, State.stageAmend, hnone]
    simp only [StagedFields.merge_into_empty hsolid hsource rfl]
    rfl

end Sys2Proof.Machine
end

section
/-! PROOFS. RENEW, RELEASE, UNPIN and LOOKUP over a region that the tag names, RENEW(0) over all of them, and what requests answer
before they reach a region (R27, R49, R59 to R67). -/

namespace Sys2Proof.Machine

set_option Elab.async false

/-! ### RENEW (R59) -/

theorem State.change_passes {s : State} {x : Session} (h : x ≠ .sup → (s.sessions.get x).state = .attached) :
    s.sessionRefusal x .change = none := by
  cases x with
  | sup => rfl
  | client n => simp [State.sessionRefusal, h (by simp), Access.refusal]

theorem renewRequest_of_region {n : Client} {tag : Word16} {k : Slot} {g : Region} {s : State}
    (hst : (s.sessions.get (.client n)).state = .attached) (htag : tag ≠ 0)
    (hregion : s.regionByTag (.client n) tag = .ok (k, g)) : renewRequest (.client n) tag s = renewRegion k g s := by
  unfold renewRequest
  simp only [State.change_passes fun _ => hst, htag, if_false, hregion]

theorem State.poolFull_iff {s : State} : s.poolFull = true ↔ 32 ≤ s.pool.length := decide_eq_true_iff

section
variable {k : Slot} {g : Region} {s : State}

theorem renewRegion_of_live (h : g.state = .live) :
    renewRegion k g s = accept (s.putRegion k g.renew) (.renewed k .renewed g.lease none) := by
  simp only [renewRegion, h]

theorem renewRegion_of_standing (h : g.state = .stagedNew ∨ (g.state = .lapsed ∧ (s.entryFor k).isSome = true)) :
    renewRegion k g s = accept s (.renewed k .noEffect g.remaining none) := by
  obtain h | ⟨h, hsome⟩ := h
  · simp only [renewRegion, h]
  · simp only [renewRegion, h, hsome, if_true]

theorem renewRegion_of_room (h : g.state = .lapsed) (hnone : s.entryFor k = none) (hroom : s.pool.length < 32) :
    renewRegion k g s = accept (s.stage (reviveEntry k)) (.renewed k .reviveStaged g.remaining s.effectiveFrame) := by
  have hroom : s.poolFull = false := by rw [← Bool.not_eq_true, State.poolFull_iff]; omega
  simp only [renewRegion, h, hnone, Option.isSome_none, Bool.false_eq_true, if_false, hroom]

theorem renewRegion_of_full (h : g.state = .lapsed) (hnone : s.entryFor k = none) (hfull : 32 ≤ s.pool.length) :
    renewRegion k g s = refuseFull s := by
  simp only [renewRegion, h, hnone, Option.isSome_none, Bool.false_eq_true, if_false, State.poolFull_iff.mpr hfull, if_true]

theorem renewRegion_of_retiring (h : g.state = .retiring) : renewRegion k g s = refuse s .retiring := by
  simp only [renewRegion, h]

end

/-- Settles O17: the region's state picks the row of R59. -/
theorem renewByRegionState : Obligations.RenewByRegionState := by
  intro n q tag e k g s x r c hchoice hst htag hm he hetag hk hg
  have hregion := State.regionByTag_of_mem hm he hk hg
  rw [hetag] at hregion
  have htaken {u : State} {y : Reply} (h : renewRegion k g s = (u, y)) : exec c s = .next (u.answered x r y) :=
    exec_taken (c := c) rfl hchoice (.inl rfl) (.inl nofun) ((renewRequest_of_region hst htag hregion).trans h)
  refine ⟨fun h => htaken (renewRegion_of_live h), fun h => htaken (renewRegion_of_standing h),
    fun h hnone hroom => htaken (renewRegion_of_room h hnone hroom), fun h hnone hfull => htaken (renewRegion_of_full h hnone hfull),
    fun h => htaken (renewRegion_of_retiring h)⟩

/-! ### RENEW(0) (R61) -/

/-- The slot holds a region in the state. -/
def State.standsIn (s : State) (st : RegionState) (k : Slot) : Bool := s.table[k].any (fun g => decide (g.state = st))

/-- The slots of a list whose regions are LAPSED without an entry, which RENEW(0) revives. -/
def State.freshIn (s : State) (l : List Slot) : List Slot :=
  (l.filter (s.standsIn .lapsed)).filter (fun k => (s.entryFor k).isNone)

/-- The slots of a list whose regions are LAPSED with a REVIVE staged already. -/
def State.revivingIn (s : State) (l : List Slot) : List Slot :=
  (l.filter (s.standsIn .lapsed)).filter (fun k => (s.entryFor k).isSome)

/-- RENEW(0) at one slot. -/
def renewSlot (a : RenewTally) (k : Slot) : RenewTally := renewEntry a { tag := 0, slot := some k, notices := NoticeSet.empty }

theorem foldl_renewEntry (m : List TagEntry) (a : RenewTally) :
    m.foldl renewEntry a = (m.filterMap (fun e => e.slot)).foldl renewSlot a := by
  induction m generalizing a with
  | nil => rfl
  | cons e m ih =>
    cases hk : e.slot with
    | none =>
      rw [List.filterMap_cons_none hk, List.foldl_cons, show renewEntry a e = a by simp [renewEntry, hk]]
      exact ih a
    | some k =>
      rw [List.filterMap_cons_some hk, List.foldl_cons, List.foldl_cons]
      have hstep : renewEntry a e = renewSlot a k := by simp only [renewSlot, renewEntry, hk]
      rw [hstep]
      exact ih _

section
variable {a : RenewTally} {k : Slot}

theorem renewSlot_of_live {r : Region} (hr : a.state.table[k] = some r) (h : r.state = .live) :
    renewSlot a k = { a with state := a.state.putRegion k r.renew, renewed := a.renewed + 1 } := by
  simp only [renewSlot, renewEntry, hr, h]

theorem renewSlot_of_revived (h : a.state.standsIn .lapsed k = true) (hsome : (a.state.entryFor k).isSome = true) :
    renewSlot a k = { a with revived := a.revived + 1 } := by
  obtain ⟨r, hr, hst⟩ := (Option.any_eq_true _ _).mp h
  simp only [renewSlot, renewEntry, hr, of_decide_eq_true hst, hsome, if_true]

theorem renewSlot_of_full (h : a.state.standsIn .lapsed k = true) (hnone : a.state.entryFor k = none)
    (hfull : 32 ≤ a.state.pool.length) : renewSlot a k = { a with incomplete := true } := by
  obtain ⟨r, hr, hst⟩ := (Option.any_eq_true _ _).mp h
  simp only [renewSlot, renewEntry, hr, of_decide_eq_true hst, hnone, Option.isSome_none, Bool.false_eq_true, if_false,
    State.poolFull_iff.mpr hfull, if_true]

theorem renewSlot_of_room (h : a.state.standsIn .lapsed k = true) (hnone : a.state.entryFor k = none)
    (hroom : a.state.pool.length < 32) :
    renewSlot a k = { a with state := a.state.stage (reviveEntry k), revived := a.revived + 1 } := by
  obtain ⟨r, hr, hst⟩ := (Option.any_eq_true _ _).mp h
  have hroom : a.state.poolFull = false := by rw [← Bool.not_eq_true, State.poolFull_iff]; omega
  simp only [renewSlot, renewEntry, hr, of_decide_eq_true hst, hnone, Option.isSome_none, Bool.false_eq_true, if_false, hroom]

theorem renewSlot_of_other (hlive : a.state.standsIn .live k = false) (hlapsed : a.state.standsIn .lapsed k = false) :
    renewSlot a k = a := by
  cases hr : a.state.table[k] with
  | none => simp only [renewSlot, renewEntry, hr]
  | some r =>
    cases hst : r.state with
    | live => simp [State.standsIn, hr, hst] at hlive
    | lapsed => simp [State.standsIn, hr, hst] at hlapsed
    | stagedNew => simp only [renewSlot, renewEntry, hr, hst]
    | retiring => simp only [renewSlot, renewEntry, hr, hst]

end

/-- What RENEW(0) makes of a tally over the slots of a list. -/
structure RenewsTo (l : List Slot) (a b : RenewTally) : Prop where
  state : b.state = { a.state with table := b.state.table, pool := b.state.pool }
  table : ∀ k : Slot, b.state.table[k] =
    if k ∈ l ∧ a.state.standsIn .live k = true then a.state.table[k].map Region.renew else a.state.table[k]
  pool : b.state.pool = a.state.pool ++ ((a.state.freshIn l).take (32 - a.state.pool.length)).map reviveEntry
  renewed : b.renewed = a.renewed + (l.filter (a.state.standsIn .live)).length
  revived : b.revived =
    a.revived + (a.state.revivingIn l).length + ((a.state.freshIn l).take (32 - a.state.pool.length)).length
  incomplete : b.incomplete =
    (a.incomplete || decide (((a.state.freshIn l).take (32 - a.state.pool.length)).length < (a.state.freshIn l).length))

theorem RenewsTo.nil (a : RenewTally) : RenewsTo [] a a where
  state := rfl
  table k := by simp
  pool := by simp [State.freshIn]
  renewed := rfl
  revived := by simp [State.freshIn, State.revivingIn]
  incomplete := by simp [State.freshIn]

/-- The slots of a list read the same where table and entries do. -/
theorem State.slotsIn_congr {s t : State} {l : List Slot}
    (h : ∀ k ∈ l, t.table[k] = s.table[k] ∧ t.entryFor k = s.entryFor k) :
    l.filter (t.standsIn .live) = l.filter (s.standsIn .live) ∧ t.freshIn l = s.freshIn l
      ∧ t.revivingIn l = s.revivingIn l := by
  have hstands (st : RegionState) : l.filter (t.standsIn st) = l.filter (s.standsIn st) :=
    List.filter_congr fun k hk => by rw [State.standsIn, State.standsIn, (h k hk).1]
  refine ⟨hstands _, ?_, ?_⟩
  · rw [State.freshIn, State.freshIn, hstands]
    exact List.filter_congr fun k hk => by rw [(h k (List.mem_filter.mp hk).1).2]
  · rw [State.revivingIn, State.revivingIn, hstands]
    exact List.filter_congr fun k hk => by rw [(h k (List.mem_filter.mp hk).1).2]

theorem State.standsIn_unique {s : State} {k : Slot} {st st' : RegionState} (h : s.standsIn st k = true) (hne : st' ≠ st) :
    s.standsIn st' k = false := by
  obtain ⟨r, hr, hst⟩ := (Option.any_eq_true _ _).mp h
  rw [State.standsIn, hr, Option.any_some, of_decide_eq_true hst]
  exact decide_eq_false (Ne.symm hne)

/-- A slot put in front of a list joins the lists it stands in. -/
theorem State.slotsIn_cons_of_not_lapsed {s : State} {k : Slot} (l : List Slot) (h : s.standsIn .lapsed k = false) :
    s.freshIn (k :: l) = s.freshIn l ∧ s.revivingIn (k :: l) = s.revivingIn l := by
  have hskip := List.filter_cons_of_neg (p := s.standsIn .lapsed) (a := k) (l := l) (by rw [h]; nofun)
  rw [State.freshIn, State.revivingIn, hskip]
  exact ⟨rfl, rfl⟩

theorem State.slotsIn_cons_of_reviving {s : State} {k : Slot} (l : List Slot) (h : s.standsIn .lapsed k = true)
    (hsome : (s.entryFor k).isSome = true) :
    s.freshIn (k :: l) = s.freshIn l ∧ s.revivingIn (k :: l) = k :: s.revivingIn l := by
  have hnone : ¬ (s.entryFor k).isNone = true := by rw [← Option.not_isSome, hsome]; nofun
  have hkeep := List.filter_cons_of_pos (p := s.standsIn .lapsed) (a := k) (l := l) h
  rw [State.freshIn, State.revivingIn, hkeep]
  exact ⟨List.filter_cons_of_neg (p := fun k => (s.entryFor k).isNone) hnone,
    List.filter_cons_of_pos (p := fun k => (s.entryFor k).isSome) hsome⟩

theorem State.slotsIn_cons_of_fresh {s : State} {k : Slot} (l : List Slot) (h : s.standsIn .lapsed k = true)
    (hnone : s.entryFor k = none) :
    s.freshIn (k :: l) = k :: s.freshIn l ∧ s.revivingIn (k :: l) = s.revivingIn l := by
  have hkeep := List.filter_cons_of_pos (p := s.standsIn .lapsed) (a := k) (l := l) h
  rw [State.freshIn, State.revivingIn, hkeep]
  exact ⟨List.filter_cons_of_pos (p := fun k => (s.entryFor k).isNone) (by rw [hnone]; rfl),
    List.filter_cons_of_neg (p := fun k => (s.entryFor k).isSome) (by rw [hnone]; nofun)⟩

theorem renewsTo_cons_of_live {k : Slot} {l : List Slot} (hk : k ∉ l) {a b : RenewTally}
    (hlive : a.state.standsIn .live k = true) (h : RenewsTo l (renewSlot a k) b) : RenewsTo (k :: l) a b := by
  have hne {j : Slot} (hj : j ∈ l) : k ≠ j := fun heq => hk (heq ▸ hj)
  obtain ⟨r, hr, hst⟩ := (Option.any_eq_true _ _).mp hlive
  rw [renewSlot_of_live hr (of_decide_eq_true hst)] at h
  have htable (j : Slot) : (a.state.putRegion k r.renew).table[j] = if k = j then some r.renew else a.state.table[j] :=
    getElem_set_slot _ _ _ _
  obtain ⟨hsl, hsf, hsr⟩ := State.slotsIn_congr (s := a.state) (t := a.state.putRegion k r.renew) (l := l)
    fun j hj => ⟨by rw [htable, if_neg (hne hj)], rfl⟩
  obtain ⟨hfresh, hreviving⟩ := State.slotsIn_cons_of_not_lapsed l (State.standsIn_unique hlive (st' := .lapsed) nofun)
  obtain ⟨hs, ht, hp, hn, hv, hi⟩ := h
  simp only [hsl, hsf, hsr] at hp hn hv hi
  refine ⟨hs, fun j => ?_, by rw [hp, hfresh]; rfl, ?_, by rw [hv, hfresh, hreviving]; rfl, by rw [hi, hfresh]; rfl⟩
  · rw [ht]
    by_cases hj : k = j
    · subst hj
      rw [if_neg (fun h => hk h.1), if_pos ⟨List.mem_cons_self, hlive⟩, htable, if_pos rfl, hr]
      rfl
    · have hstands : (a.state.putRegion k r.renew).standsIn .live j = a.state.standsIn .live j := by
        rw [State.standsIn, htable, if_neg hj]; rfl
      simp only [hstands, htable, if_neg hj, List.mem_cons, Ne.symm hj, false_or]
  · rw [hn, List.filter_cons_of_pos hlive, List.length_cons]
    omega

theorem renewsTo_cons_of_not_live {k : Slot} {l : List Slot} (hk : k ∉ l) {a b : RenewTally}
    (hlive : a.state.standsIn .live k = false) (h : RenewsTo l (renewSlot a k) b) : RenewsTo (k :: l) a b := by
  have hnotlive : (k :: l).filter (a.state.standsIn .live) = l.filter (a.state.standsIn .live) :=
    List.filter_cons_of_neg (by rw [hlive]; nofun)
  have hmem (j : Slot) : (j ∈ k :: l ∧ a.state.standsIn .live j = true) ↔ (j ∈ l ∧ a.state.standsIn .live j = true) := by
    refine ⟨fun ⟨hj, hst⟩ => ⟨(List.mem_cons.mp hj).resolve_left fun heq => ?_, hst⟩,
      fun ⟨hj, hst⟩ => ⟨List.mem_cons_of_mem _ hj, hst⟩⟩
    rw [heq, hlive] at hst
    cases hst
  cases hlapsed : a.state.standsIn .lapsed k with
  | false =>
    obtain ⟨hfresh, hreviving⟩ := State.slotsIn_cons_of_not_lapsed l hlapsed
    rw [renewSlot_of_other hlive hlapsed] at h
    obtain ⟨hs, ht, hp, hn, hv, hi⟩ := h
    exact ⟨hs, fun j => (ht j).trans (if_congr (hmem j).symm rfl rfl), by rw [hp, hfresh], by rw [hn, hnotlive],
      by rw [hv, hfresh, hreviving], by rw [hi, hfresh]⟩
  | true =>
    cases hentry : a.state.entryFor k with
    | some e =>
      have hsome : (a.state.entryFor k).isSome = true := by rw [hentry]; rfl
      obtain ⟨hfresh, hreviving⟩ := State.slotsIn_cons_of_reviving l hlapsed hsome
      rw [renewSlot_of_revived hlapsed hsome] at h
      obtain ⟨hs, ht, hp, hn, hv, hi⟩ := h
      refine ⟨hs, fun j => (ht j).trans (if_congr (hmem j).symm rfl rfl), by rw [hp, hfresh], by rw [hn, hnotlive], ?_,
        by rw [hi, hfresh]⟩
      rw [hv, hfresh, hreviving, List.length_cons]
      dsimp only
      omega
    | none =>
      obtain ⟨hfresh, hreviving⟩ := State.slotsIn_cons_of_fresh l hlapsed hentry
      by_cases hfull : 32 ≤ a.state.pool.length
      · have hzero : 32 - a.state.pool.length = 0 := Nat.sub_eq_zero_of_le hfull
        rw [renewSlot_of_full hlapsed hentry hfull] at h
        obtain ⟨hs, ht, hp, hn, hv, hi⟩ := h
        rw [hzero, List.take_zero] at hp hv hi
        refine ⟨hs, fun j => (ht j).trans (if_congr (hmem j).symm rfl rfl), ?_, by rw [hn, hnotlive], ?_, ?_⟩
        · rw [hzero, List.take_zero, hp]
        · rw [hzero, List.take_zero, hv, hreviving]
        · rw [hzero, List.take_zero, hi, hfresh]
          simp
      · have hroom : a.state.pool.length < 32 := not_le.mp hfull
        obtain ⟨n, hn32⟩ : ∃ n, 32 - a.state.pool.length = n + 1 := ⟨31 - a.state.pool.length, by omega⟩
        have hlen : 32 - (a.state.stage (reviveEntry k)).pool.length = n := by
          show 32 - (a.state.pool ++ [reviveEntry k]).length = n
          rw [List.length_append, List.length_singleton]
          omega
        rw [renewSlot_of_room hlapsed hentry hroom] at h
        obtain ⟨hsl, hsf, hsr⟩ := State.slotsIn_congr (s := a.state) (t := a.state.stage (reviveEntry k)) (l := l)
          fun j hj => ⟨rfl, by
            rw [State.entryFor_stage, if_neg (show (reviveEntry k).slot ≠ j from fun heq : k = j => hk (heq ▸ hj)),
              Option.or_none]⟩
        obtain ⟨hs, ht, hp, hn, hv, hi⟩ := h
        simp only [hsl, hsf, hsr, hlen] at hp hn hv hi
        refine ⟨hs, fun j => (ht j).trans (if_congr (hmem j).symm rfl rfl), ?_, by rw [hn, hnotlive], ?_, ?_⟩
        · rw [hn32, hfresh, List.take_succ_cons, List.map_cons, hp]
          show (a.state.pool ++ [reviveEntry k]) ++ _ = _
          rw [List.append_assoc, List.singleton_append]
        · rw [hn32, hfresh, hreviving, List.take_succ_cons, List.length_cons, hv]
          omega
        · rw [hn32, hfresh, List.take_succ_cons, List.length_cons, List.length_cons, hi]
          simp

theorem foldl_renewSlot {l : List Slot} (hl : l.Pairwise (fun a b => a ≠ b)) (a : RenewTally) :
    RenewsTo l a (l.foldl renewSlot a) := by
  induction l generalizing a with
  | nil => exact .nil a
  | cons k l ih =>
    obtain ⟨hk, hl⟩ := List.pairwise_cons.mp hl
    have hk : k ∉ l := fun hmem => hk k hmem rfl
    cases hlive : a.state.standsIn .live k with
    | true => exact renewsTo_cons_of_live hk hlive (ih hl _)
    | false => exact renewsTo_cons_of_not_live hk hlive (ih hl _)

theorem State.revivingIn_length (s : State) (l : List Slot) :
    (s.revivingIn l).length = (l.filter (s.standsIn .lapsed)).length - (s.freshIn l).length := by
  have hpart := List.length_eq_length_filter_add (l := l.filter (s.standsIn .lapsed)) (fun k => (s.entryFor k).isSome)
  have hnone : (fun k => !(s.entryFor k).isSome) = fun k => (s.entryFor k).isNone := funext fun k => by rw [Option.not_isSome]
  rw [hnone] at hpart
  unfold State.revivingIn State.freshIn
  omega

/-- Settles O18: the fold over the Tag Map, slot by slot. -/
theorem renewAllRenewsEveryRegion : Obligations.RenewAllRenewsEveryRegion := by
  intro n q s x r hchoice hst _ named isIn lapsed fresh staged revived incomplete hnamed
  have hfold : (s.tagMaps.get x).foldl renewEntry { state := s, renewed := 0, revived := 0, incomplete := false }
      = named.foldl renewSlot { state := s, renewed := 0, revived := 0, incomplete := false } := foldl_renewEntry _ _
  obtain ⟨hs, ht, hp, hn, hv, hi⟩ := foldl_renewSlot hnamed { state := s, renewed := 0, revived := 0, incomplete := false }
  rw [← hfold] at hs ht hp hn hv hi
  have hrule : renewRequest x 0 s = renewEvery x s := by
    simp only [x, renewRequest, State.change_passes fun _ => hst, if_true]
  have hrevived : revived = (s.revivingIn named).length + staged.length := by
    rw [State.revivingIn_length]
    rfl
  generalize ha : (s.tagMaps.get x).foldl renewEntry { state := s, renewed := 0, revived := 0, incomplete := false } = a at *
  have hin : a.incomplete = incomplete := by rw [hi, Bool.false_or]; rfl
  have hre : a.revived = revived := by
    rw [hv, hrevived, Nat.zero_add]
    rfl
  have hne : a.renewed = (named.filter (isIn .live)).length := by
    rw [hn, Nat.zero_add]
    rfl
  refine ⟨a.state.raiseIf a.incomplete .stageFull,
    exec_taken (c := .renewAll x q) rfl hchoice (.inl rfl) (.inl nofun) (hrule.trans ?_), ?_, ?_, ?_, ?_, ?_⟩
  · rw [renewEvery, ha, hin, hre, hne]
    rfl
  · rw [hs]
    cases a.incomplete <;> rfl
  · intro k hk hlive
    rw [State.raiseIf_table, ht, if_pos ⟨hk, hlive⟩]
    rfl
  · intro k hk
    rw [State.raiseIf_table, ht, if_neg]
    rintro ⟨hmem, hlive⟩
    obtain hk | hk := hk
    · exact hk hmem
    · exact Bool.false_ne_true (hk.symm.trans hlive)
  · rw [State.raiseIf_pool, hp]
    rfl
  · rw [hs, hin]
    cases incomplete <;> rfl

/-! ### RELEASE and UNPIN (R62, R66) -/

theorem releaseRequest_of_region {n : Client} {tag : Word16} {k : Slot} {g : Region} {s : State}
    (hst : (s.sessions.get (.client n)).state = .attached) (hregion : s.regionByTag (.client n) tag = .ok (k, g)) :
    releaseRequest (.client n) tag s = removeRegion (.client n) .release k g s := by
  unfold releaseRequest
  simp only [State.change_passes fun _ => hst, hregion]

theorem unpinRequest_of_region {tag : Word16} {k : Slot} {g : Region} {s : State}
    (hregion : s.regionByTag .sup tag = .ok (k, g)) : unpinRequest tag s = removeRegion .sup .unpin k g s := by
  unfold unpinRequest
  simp only [hregion]

section
variable {p : Port} {kind : EntryKind} {k : Slot} {g : Region} {s : State}

theorem removeRegion_of_stagedNew (h : g.state = .stagedNew) :
    removeRegion p kind k g s = accept (s.freeStaged k p) (.released k .freed none) := by
  simp only [removeRegion, h]

theorem removeRegion_of_retiring (h : g.state = .retiring) : removeRegion p kind k g s = refuse s .retiring := by
  simp only [removeRegion, h]

theorem removeRegion_of_room (h : g.state = .live ∨ g.state = .lapsed)
    (hroom : s.entryFor k = none → s.pool.length < 32) :
    removeRegion p kind k g s = accept (s.stageRemoval k g kind) (.released k .staged s.effectiveFrame) := by
  have hroom : ¬ ((s.entryFor k).isNone && s.poolFull) = true := by
    rw [Bool.and_eq_true, State.poolFull_iff, Option.isNone_iff_eq_none]
    exact fun ⟨hnone, hfull⟩ => absurd (hroom hnone) (not_lt.mpr hfull)
  obtain h | h := h <;> simp only [removeRegion, h, if_neg hroom]

theorem removeRegion_of_full (h : g.state = .live ∨ g.state = .lapsed) (hnone : s.entryFor k = none)
    (hfull : 32 ≤ s.pool.length) : removeRegion p kind k g s = refuseFull s := by
  have hfull : ((s.entryFor k).isNone && s.poolFull) = true := by
    rw [Bool.and_eq_true, State.poolFull_iff, hnone]
    exact ⟨rfl, hfull⟩
  obtain h | h := h <;> simp only [removeRegion, h, if_pos hfull]

end

theorem State.freeStaged_eq (s : State) (k : Slot) (x : Session) :
    s.freeStaged k x =
      { s with
        table := s.table.set k none
        shown := s.shown.set k false
        pool := s.pool.filter (fun z => decide (z.slot ≠ k))
        tagMaps := s.tagMaps.set x ((s.tagMaps.get x).filter (fun z => decide (z.slot ≠ some k))) } := by
  have hpool : (fun z : PoolEntry => z.slot != k) = fun z => decide (z.slot ≠ k) := funext fun z => by
    rw [Bool.eq_iff_iff, bne_iff_ne, decide_eq_true_iff]
  have hmap : (fun z : TagEntry => z.slot != some k) = fun z => decide (z.slot ≠ some k) := funext fun z => by
    rw [Bool.eq_iff_iff, bne_iff_ne, decide_eq_true_iff]
  rw [← hpool, ← hmap]
  rfl

theorem State.stageRemoval_of_entry {s : State} {k : Slot} {g : Region} {kind : EntryKind}
    (h : (s.entryFor k).isSome = true) :
    s.stageRemoval k g kind =
      { s with
        table := s.table.set k (some g.retire)
        pool := s.pool.map (fun z =>
          if z.slot = k then { slot := k, kind := kind, fields := StagedFields.empty } else z) } := by
  have hbecome : (fun z : PoolEntry => if z.slot = k then z.become kind else z) =
      fun z => if z.slot = k then { slot := k, kind := kind, fields := StagedFields.empty } else z :=
    funext fun z => ite_congr rfl (fun hz => by rw [PoolEntry.become, hz]) (fun _ => rfl)
  obtain ⟨z, hz⟩ := Option.isSome_iff_exists.mp h
  rw [← hbecome, State.stageRemoval]
  simp only [hz]
  rfl

theorem State.stageRemoval_of_none {s : State} {k : Slot} {g : Region} {kind : EntryKind} (h : s.entryFor k = none) :
    s.stageRemoval k g kind =
      { s with
        table := s.table.set k (some g.retire)
        pool := s.pool ++ [{ slot := k, kind := kind, fields := StagedFields.empty }] } := by
  rw [State.stageRemoval]
  simp only [h]
  rfl

/-- Settles O19: either request removes the region by its state. -/
theorem removalByRegionState : Obligations.RemovalByRegionState := by
  intro x q tag e k g s kind r c hchoice hst htag hm he hetag hk hg retired
  have hregion := State.regionByTag_of_mem hm he hk hg
  rw [hetag] at hregion
  have htaken {u : State} {y : Reply} (h : removeRegion x kind k g s = (u, y)) : exec c s = .next (u.answered x r y) := by
    cases x with
    | sup => exact exec_taken (c := c) rfl hchoice (.inr rfl) (.inl nofun) ((unpinRequest_of_region hregion).trans h)
    | client n =>
      exact exec_taken (c := c) rfl hchoice (.inl rfl) (.inl nofun) ((releaseRequest_of_region (hst nofun) hregion).trans h)
  refine ⟨fun h => ?_, fun h hsome => ?_, fun h hnone hroom => ?_, fun h hnone hfull => htaken (removeRegion_of_full h hnone hfull),
    fun h => htaken (removeRegion_of_retiring h)⟩
  · rw [htaken (removeRegion_of_stagedNew h), State.freeStaged_eq]
    rfl
  · rw [htaken (removeRegion_of_room h (fun hnone => by rw [hnone] at hsome; cases hsome)), State.stageRemoval_of_entry hsome]
    rfl
  · rw [htaken (removeRegion_of_room h (fun _ => hroom)), State.stageRemoval_of_none hnone]
    rfl

/-! ### LOOKUP (R67) -/

theorem State.read_passes {s : State} {x : Session}
    (h : x ≠ .sup → (s.sessions.get x).state = .attached ∨ (s.sessions.get x).state = .suspended) :
    s.sessionRefusal x .read = none := by
  cases x with
  | sup => rfl
  | client n => obtain h | h := h (by simp) <;> simp [State.sessionRefusal, h, Access.refusal]

/-- Settles O21: the report of the region that the tag names. -/
theorem lookupReportsTheRegion : Obligations.LookupReportsTheRegion := by
  intro p q tag e k g s hagrees hchoice hst htag he hetag hk hg
  have hfacts := State.tableAgrees_iff.mp hagrees
  have hregion := State.regionByTag_of_mem (hfacts.ordered p) he hk hg
  rw [hetag] at hregion
  obtain ⟨-, howner, -⟩ := hfacts.region_of_tag hregion
  have hnotices := State.noticesAt_eq hagrees hg he hk
  refine exec_taken (c := .lookup p q tag) rfl hchoice (.inl rfl) (.inl nofun) ?_
  show lookupRequest p tag s = _
  unfold lookupRequest
  simp only [State.read_passes hst, hregion, acceptWith, State.regionReport, hg, Option.map_some, howner, hnotices,
    State.entryFor]

/-! ### Requests answered before a region is reached (R27, R49) -/

/-- A tag without an entry, or whose entry has no slot, names no region. -/
theorem State.regionByTag_of_slotless {s : State} {x : Session} {t : Word16} (ht : t ≠ 0)
    (h : ∀ e ∈ s.tagMaps.get x, e.tag = t → e.slot = none) : s.regionByTag x t = .error .noSuchTag := by
  unfold State.regionByTag
  rw [if_neg ht]
  cases hf : findTag (s.tagMaps.get x) t with
  | none => rfl
  | some e =>
    have hslot := h e (List.mem_of_find?_eq_some hf) (by simpa using List.find?_some hf)
    simp only [hslot]

theorem State.regionByTag_zero (s : State) (x : Session) : s.regionByTag x 0 = .error .badRequest := if_pos rfl

/-- The access of a request, for its session-state check (R27). -/
def accessOf (change : Bool) : Access := if change then .change else .read

/-- A rule that refuses by the session-state check of its access, and then, but for RENEW(0), by the tag. -/
structure ChecksTag (x : Session) (t : Word16) (change : Bool) (renews : Prop) (f : State → State × Reply) : Prop where
  session : ∀ s c, s.sessionRefusal x (accessOf change) = some c → f s = refuse s c
  tag : ∀ s c, s.sessionRefusal x (accessOf change) = none → (renews → t ≠ 0) → s.regionByTag x t = .error c → f s = refuse s c

theorem amend_checksTag (x : Session) (b : FieldBlock) : ChecksTag x b.tag true False (amendRequest x b) where
  session s c h := by
    have h : s.sessionRefusal x .change = some c := h
    simp only [amendRequest, h]
  tag s c h _ hc := by
    have h : s.sessionRefusal x .change = none := h
    simp only [amendRequest, h, hc]

theorem renew_checksTag (n : Client) (t : Word16) : ChecksTag (.client n) t true True (renewRequest (.client n) t) where
  session s c h := by
    have h : s.sessionRefusal (.client n) .change = some c := h
    simp only [renewRequest, h]
  tag s c h ht hc := by
    have h : s.sessionRefusal (.client n) .change = none := h
    simp only [renewRequest, h, ht trivial, if_false, hc]

theorem release_checksTag (n : Client) (t : Word16) : ChecksTag (.client n) t true False (releaseRequest (.client n) t) where
  session s c h := by
    have h : s.sessionRefusal (.client n) .change = some c := h
    simp only [releaseRequest, h]
  tag s c h _ hc := by
    have h : s.sessionRefusal (.client n) .change = none := h
    simp only [releaseRequest, h, hc]

theorem lookup_checksTag (x : Session) (t : Word16) : ChecksTag x t false False (lookupRequest x t) where
  session s c h := by
    have h : s.sessionRefusal x .read = some c := h
    simp only [lookupRequest, h]
  tag s c h _ hc := by
    have h : s.sessionRefusal x .read = none := h
    simp only [lookupRequest, h, hc]

theorem unpin_checksTag (t : Word16) : ChecksTag .sup t true False (unpinRequest t) where
  session s c h := nomatch h
  tag s c _ _ hc := by simp only [unpinRequest, hc]

section
variable {s : State} {n : Client}

theorem State.sessionRefusal_of_detached (change : Bool) (h : (s.sessions.get (.client n)).state = .detached) :
    s.sessionRefusal (.client n) (accessOf change) = some .notAttached := by
  cases change <;> simp [State.sessionRefusal, accessOf, h, Access.refusal]

theorem State.sessionRefusal_of_draining (change : Bool) (h : (s.sessions.get (.client n)).state = .draining) :
    s.sessionRefusal (.client n) (accessOf change) = some .draining := by
  cases change <;> simp [State.sessionRefusal, accessOf, h, Access.refusal]

theorem State.sessionRefusal_of_suspended {change : Bool} (h : (s.sessions.get (.client n)).state = .suspended)
    (hchange : change = true) : s.sessionRefusal (.client n) (accessOf change) = some .suspended := by
  simp [State.sessionRefusal, accessOf, hchange, h, Access.refusal]

theorem State.sessionRefusal_of_passes {change : Bool}
    (h : (s.sessions.get (.client n)).state = .attached ∨ ((s.sessions.get (.client n)).state = .suspended ∧ change = false)) :
    s.sessionRefusal (.client n) (accessOf change) = none := by
  obtain h | ⟨h, hchange⟩ := h
  · simp [State.sessionRefusal, h, Access.refusal]
  · simp [State.sessionRefusal, accessOf, hchange, h, Access.refusal]

end

/-- R49 and R27 over a client's region requests. -/
theorem clientRequests_refused (n : Client) (q : Byte) (b : FieldBlock) (s : State) :
    let x : Session := .client n
    let st := (s.sessions.get x).state
    ∀ cr ∈ [(Instr.amend x q b, Call.amend b, true), (.renew x q b.tag, .renew b.tag, true),
        (.release x q b.tag, .release b.tag, true), (.lookup x q b.tag, .lookup b.tag, false)],
      s.choice = some (x, ⟨q, cr.2.1⟩) →
      let answer (c : ResultCode) : Prop := exec cr.1 s = .next (s.answered x ⟨q, cr.2.1⟩ (plainReply c))
      let passes := st = .attached ∨ (st = .suspended ∧ cr.2.2 = false)
      (st = .detached → answer .notAttached) ∧ (st = .draining → answer .draining)
        ∧ (st = .suspended → cr.2.2 = true → answer .suspended)
        ∧ (passes → b.tag = 0 → (∀ t, cr.2.1 ≠ .renew t) → answer .badRequest)
        ∧ (passes → b.tag ≠ 0 → (∀ e ∈ s.tagMaps.get x, e.tag = b.tag → e.slot = none) → answer .noSuchTag) := by
  intro x st cr hcr hchoice answer passes
  obtain ⟨renews, f, hrenews, hf, hanswer⟩ : ∃ (renews : Prop) (f : State → State × Reply),
      (renews → ∃ t, cr.2.1 = .renew t) ∧ ChecksTag x b.tag cr.2.2 renews f ∧ ∀ c, f s = refuse s c → answer c := by
    simp only [List.mem_cons, List.not_mem_nil, or_false] at hcr
    obtain rfl | rfl | rfl | rfl := hcr
    · exact ⟨False, _, False.elim, amend_checksTag x b, fun c h => exec_taken rfl hchoice (.inl rfl) (.inl nofun) h⟩
    · exact ⟨True, _, fun _ => ⟨b.tag, rfl⟩, renew_checksTag n b.tag, fun c h => exec_taken rfl hchoice (.inl rfl) (.inl nofun) h⟩
    · exact ⟨False, _, False.elim, release_checksTag n b.tag, fun c h => exec_taken rfl hchoice (.inl rfl) (.inl nofun) h⟩
    · exact ⟨False, _, False.elim, lookup_checksTag x b.tag, fun c h => exec_taken rfl hchoice (.inl rfl) (.inl nofun) h⟩
  refine ⟨fun h => ?_, fun h => ?_, fun h hchange => ?_, fun h h0 hnot => ?_, fun h h0 hnone => ?_⟩
  · exact hanswer _ (hf.session s _ (State.sessionRefusal_of_detached _ h))
  · exact hanswer _ (hf.session s _ (State.sessionRefusal_of_draining _ h))
  · exact hanswer _ (hf.session s _ (State.sessionRefusal_of_suspended h hchange))
  · refine hanswer _ (hf.tag s _ (State.sessionRefusal_of_passes h) (fun hr => ?_) (h0 ▸ s.regionByTag_zero x))
    obtain ⟨t, ht⟩ := hrenews hr
    exact absurd ht (hnot t)
  · exact hanswer _ (hf.tag s _ (State.sessionRefusal_of_passes h) (fun _ => h0) (State.regionByTag_of_slotless h0 hnone))

/-- R27 over the client requests that name no region. -/
theorem clientReads_refused (n : Client) (q f : Byte) (x y : Word16) (s : State) :
    let st := (s.sessions.get (.client n)).state
    ∀ cr ∈ [(Instr.renewAll (.client n) q, Call.renew 0, true), (.probe (.client n) q x y, .probe x y, false),
        (.walkStart (.client n) q f, .walkStart f, false), (.walkNext (.client n) q, .walkNext, false)],
      s.choice = some (.client n, ⟨q, cr.2.1⟩) →
      let answer (c : ResultCode) : Prop := exec cr.1 s = .next (s.answered (.client n) ⟨q, cr.2.1⟩ (plainReply c))
      (st = .detached → answer .notAttached) ∧ (st = .draining → answer .draining)
        ∧ (st = .suspended → cr.2.2 = true → answer .suspended) := by
  intro st cr hcr hchoice answer
  have hanswer : ∀ c, s.sessionRefusal (.client n) (accessOf cr.2.2) = some c → answer c := by
    intro c h
    simp only [List.mem_cons, List.not_mem_nil, or_false] at hcr
    obtain rfl | rfl | rfl | rfl := hcr
    · exact exec_taken rfl hchoice (.inl rfl) (.inl nofun) ((renew_checksTag n 0).session s c h)
    · have h : s.sessionRefusal (.client n) .read = some c := h
      exact exec_taken rfl hchoice (.inl rfl) (.inl nofun)
        (show probeRequest (.client n) x y s = _ by simp only [probeRequest, h]; rfl)
    · have h : s.sessionRefusal (.client n) .read = some c := h
      exact exec_taken rfl hchoice (.inl rfl) (.inl nofun)
        (show walkStartRequest (.client n) f s = _ by simp only [walkStartRequest, h]; rfl)
    · have h : s.sessionRefusal (.client n) .read = some c := h
      exact exec_taken rfl hchoice (.inl rfl) (.inl nofun)
        (show walkNextRequest (.client n) s = _ by simp only [walkNextRequest, h]; rfl)
  exact ⟨fun h => hanswer _ (State.sessionRefusal_of_detached _ h), fun h => hanswer _ (State.sessionRefusal_of_draining _ h),
    fun h hchange => hanswer _ (State.sessionRefusal_of_suspended h hchange)⟩

/-- R49 over SP's requests that name a region. -/
theorem supervisorRequests_refused (q : Byte) (b : FieldBlock) (s : State) :
    ∀ cr ∈ [(Instr.amend .sup q b, Call.amend b), (.unpin .sup q b.tag, .unpin b.tag), (.lookup .sup q b.tag, .lookup b.tag)],
      s.choice = some (.sup, ⟨q, cr.2⟩) →
      (b.tag = 0 → exec cr.1 s = .next (s.answered .sup ⟨q, cr.2⟩ (plainReply .badRequest)))
        ∧ (b.tag ≠ 0 → (∀ e ∈ s.tagMaps.get .sup, e.tag = b.tag → e.slot = none) →
            exec cr.1 s = .next (s.answered .sup ⟨q, cr.2⟩ (plainReply .noSuchTag))) := by
  intro cr hcr hchoice
  have hanswer : ∀ c, s.regionByTag .sup b.tag = .error c → exec cr.1 s = .next (s.answered .sup ⟨q, cr.2⟩ (plainReply c)) := by
    intro c h
    simp only [List.mem_cons, List.not_mem_nil, or_false] at hcr
    obtain rfl | rfl | rfl := hcr
    · exact exec_taken rfl hchoice (.inr rfl) (.inl nofun) ((amend_checksTag .sup b).tag s c rfl False.elim h)
    · exact exec_taken rfl hchoice (.inr rfl) (.inl nofun) ((unpin_checksTag b.tag).tag s c rfl False.elim h)
    · exact exec_taken rfl hchoice (.inr rfl) (.inl nofun) ((lookup_checksTag .sup b.tag).tag s c rfl False.elim h)
  exact ⟨fun h0 => hanswer _ (h0 ▸ s.regionByTag_zero .sup), fun h0 hnone => hanswer _ (State.regionByTag_of_slotless h0 hnone)⟩

theorem probeRequest_of_unconfigured {p : Port} {x y : Word16} {s : State} (hst : s.sessionRefusal p .read = none)
    (h : s.scan.width = 0 ∨ s.scan.height = 0) : probeRequest p x y s = refuse s .notConfigured := by
  have hconf : s.configured = false := State.not_configured_iff.mpr h
  simp only [probeRequest, hst, hconf, Bool.not_false, if_true]

/-- SUP's report, constant at all times (R25). -/
theorem supReport_of_legal {s : State} (h : s.SessionsLegal) :
    s.sessionReport .sup =
      { session := .sup, state := .attached, pending := .noChange, quota := 8, ceiling := 0, leaseMax := 255, evicted := false,
        effective := s.effectiveFrame } := by
  obtain ⟨-, -, hsup⟩ := h
  have hrecord : s.sessions.get .sup = { SessionRecord.supReset with cursor := (s.sessions.get .sup).cursor } :=
    congrArg (fun r : SessionRecord => { r with cursor := s.sessions.sup.cursor }) hsup
  rw [State.sessionReport, hrecord]
  rfl

theorem openRequest_sup (b : FieldBlock) (s : State) :
    openRequest .sup b s =
      refuse s (if s.scan.width = 0 ∨ s.scan.height = 0 then .notConfigured else .badRequest) := by
  by_cases hconf : s.scan.width = 0 ∨ s.scan.height = 0
  · simp only [openRequest, State.not_configured_iff.mpr hconf, Bool.false_eq_true, if_false, if_pos hconf]
  · have hset : s.configured = true := by
      rw [← Bool.not_eq_false, State.not_configured_iff]
      exact hconf
    simp only [openRequest, hset, if_true, if_neg hconf]

/-- Settles O20: the session-state check comes first, then the tag; and SP's requests that no region can take. -/
theorem requestsRefusedBeforeTheRegion : Obligations.RequestsRefusedBeforeTheRegion := by
  refine ⟨clientRequests_refused, clientReads_refused, fun p q x y s hchoice hst h => ?_, supervisorRequests_refused,
    fun s q b tag => ⟨fun hlegal hchoice => ?_, fun hchoice => ?_, fun hchoice => ?_, fun hchoice => ?_, fun hchoice => ?_,
      fun hchoice => ?_⟩⟩
  · exact exec_taken rfl hchoice (.inl rfl) (.inl nofun) (probeRequest_of_unconfigured (State.read_passes hst) h)
  · refine exec_taken (c := .attach .sup q) rfl hchoice (.inr rfl) (.inl nofun) ?_
    show sessionReply s .already .sup = _
    rw [sessionReply, supReport_of_legal hlegal]
  · exact exec_taken (c := .detach .sup q) rfl hchoice (.inr rfl) (.inl nofun) rfl
  · exact exec_taken (c := .renew .sup q tag) rfl hchoice (.inr rfl) (.inl nofun) rfl
  · exact exec_taken (c := .renewAll .sup q) rfl hchoice (.inr rfl) (.inl nofun) rfl
  · exact exec_taken (c := .release .sup q tag) rfl hchoice (.inr rfl) (.inl nofun) rfl
  · refine exec_taken (c := .openRegion .sup q b) rfl hchoice (.inr rfl) (.inl nofun) ?_
    exact openRequest_sup b s

end Sys2Proof.Machine
end

section
/-! PROOFS. The sync lines: what VBLANK and FSTART do by the scan state, the expectation and the Resolver, what a swap installs,
and what moves the expectation and the front plan (O30, O31, O32, O52, O53). -/

namespace Sys2Proof.Machine

set_option Elab.async false

/-! ### A commit taken, from the side of the sync lines -/

theorem State.takeCommit_outsideCommit (s : State) :
    s.takeCommit.outsideCommit = ({ s with commitsDue := s.commitsDue.tail } : State).outsideCommit := by
  cases hdue : s.commitsDue with
  | nil => simp [State.takeCommit, hdue, State.outsideCommit]
  | cons f rest => rw [State.takeCommit_of_due hdue]; exact State.vblankCommit_outsideCommit _ f

@[simp] theorem State.takeCommit_front (s : State) : s.takeCommit.front = s.front :=
  congrArg (·.1) s.takeCommit_outsideCommit

@[simp] theorem State.takeCommit_resetLow (s : State) : s.takeCommit.resetLow = s.resetLow :=
  congrArg (·.2.2.2.2.2.1) s.takeCommit_outsideCommit

/-- What no commit moves of Scan Control: the state, the frame number and the expectation. -/
def State.sync (s : State) : ScanState × Word16 × SyncLine := (s.scan.state, s.scan.frame, s.scan.expect)

theorem State.takeCommit_sync (s : State) : s.takeCommit.sync = s.sync := by
  cases hdue : s.commitsDue with
  | nil => simp [State.takeCommit, hdue]
  | cons f rest => rw [State.takeCommit_of_due hdue, State.sync, State.vblankCommit_scan]; rfl

theorem State.takeCommits_view {α : Type} (view : State → α) (h : ∀ t : State, view t.takeCommit = view t) (n : Nat)
    (s : State) : view (s.takeCommits n) = view s := by
  induction n generalizing s with
  | zero => rfl
  | succ n ih => exact (ih s.takeCommit).trans (h s)

theorem State.settled_sync (s : State) : s.settled.sync = s.sync := State.takeCommits_view _ State.takeCommit_sync _ s

/-! ### A swap -/

theorem State.install_scan (s : State) (p : Plan) :
    (s.install p).scan = { s.scan with state := afterInstall s.scan.state } := by
  simp only [State.install, State.raiseIf_scan]

theorem State.install_front (s : State) (p : Plan) : (s.install p).front = some p := by
  simp only [State.install, State.raiseIf_front]

theorem State.install_resolver (s : State) (p : Plan) : (s.install p).resolver = .idle := by
  simp only [State.install, State.raiseIf_resolver]

theorem State.swap_of_idle {s : State} (h : s.resolver = .idle) : s.swap = s := by simp only [State.swap, h]

theorem State.swap_of_resolving {s : State} {j : ResolveJob} (h : s.resolver = .resolving j) :
    s.swap = s.raise .planLate := by simp only [State.swap, h]

theorem State.swap_of_ready {s : State} {p : Plan} (h : s.resolver = .ready p) : s.swap = s.install p := by
  simp only [State.swap, h]

/-- A swap moves neither the frame number nor the expectation (R125, R131). -/
theorem State.swap_clock (s : State) : (s.swap.scan.frame, s.swap.scan.expect) = (s.scan.frame, s.scan.expect) := by
  cases h : s.resolver with
  | idle => rw [State.swap_of_idle h]
  | resolving j => rw [State.swap_of_resolving h]; rfl
  | ready p => rw [State.swap_of_ready h, State.install_scan]

/-! ### The lines by scan state and expectation (R153, R154) -/

/-- The state with VBLANK expected. -/
def State.passed (s : State) : State := { s with scan := { s.scan with expect := .vblank } }

theorem State.takeVblank_of_stopped {s : State} (h : s.scan.state = .stopped) : s.takeVblank = s := by
  simp [State.takeVblank, h]

theorem State.takeFstart_of_stopped {s : State} (h : s.scan.state = .stopped) : s.takeFstart = s := by
  simp [State.takeFstart, h]

theorem State.takeFstart_of_vblank {s : State} (hlow : s.resetLow = false) (hst : s.scan.state ≠ .stopped)
    (hexpect : s.scan.expect = .vblank) : s.takeFstart = s.raise .syncOrder := by
  simp [State.takeFstart, hlow, hst, hexpect]

/-- An FSTART that is expected is passed on: the commits that wait, and then the swap (R154, R155). -/
theorem State.takeFstart_of_fstart {s : State} (hlow : s.resetLow = false) (hst : s.scan.state ≠ .stopped)
    (hexpect : s.scan.expect = .fstart) : s.takeFstart = s.settled.passed.swap := by
  simp [State.takeFstart, hlow, hst, hexpect, State.passed]

theorem State.takeVblank_of_taken {s : State} (hlow : s.resetLow = false) (hst : s.scan.state ≠ .stopped) :
    s.takeVblank =
      { s with
        scan := { s.scan with frame := s.scan.frame + 1, expect := .fstart }
        alerts := if s.scan.expect = .fstart then s.alerts.raise .syncOrder else s.alerts
        commitsDue := s.commitsDue ++ s.effectiveFrame.toList } := by
  have hdue : (if commits s.scan.state then s.commitsDue ++ [s.scan.frame + 1] else s.commitsDue)
      = s.commitsDue ++ s.effectiveFrame.toList := by
    unfold State.effectiveFrame
    cases s.scan.state <;> simp [commits]
  simp only [State.takeVblank, hlow, hst, decide_false, Bool.or_self, Bool.false_eq_true, if_false, hdue]
  by_cases hexpect : s.scan.expect = .fstart <;> simp [hexpect, hlow, State.raiseIf, State.raise]

/-- A line that is not taken changes nothing (R151, R202). -/
theorem State.takeFstart_of_not_taken {s : State} (h : s.resetLow = true ∨ s.scan.state = .stopped) :
    s.takeFstart = s := if_pos (by simpa using h)

theorem State.takeVblank_of_not_taken {s : State} (h : s.resetLow = true ∨ s.scan.state = .stopped) :
    s.takeVblank = s := if_pos (by simpa using h)

/-- Settles O30, by what a VBLANK that is taken leaves. -/
theorem vblankRaisesTheFrame : Obligations.VblankRaisesTheFrame := by
  intro s hlow
  refine ⟨fun hst => congrArg Host.Outcome.next (State.takeVblank_of_stopped hst),
    fun hst => congrArg Host.Outcome.next (State.takeVblank_of_taken hlow hst), ?_⟩
  rintro (h | h) <;> simp [State.effectiveFrame, h]

/-! ### The frame number and the expectation after FSTART -/

theorem State.takeFstart_frame (s : State) : s.takeFstart.scan.frame = s.scan.frame := by
  by_cases htaken : s.resetLow = true ∨ s.scan.state = .stopped
  · rw [State.takeFstart_of_not_taken htaken]
  · obtain ⟨hlow, hst⟩ := not_or.mp htaken
    replace hlow := Bool.eq_false_iff.mpr hlow
    cases hexpect : s.scan.expect with
    | vblank => rw [State.takeFstart_of_vblank hlow hst hexpect]; rfl
    | fstart =>
      rw [State.takeFstart_of_fstart hlow hst hexpect]
      exact (congrArg (·.1) s.settled.passed.swap_clock).trans (congrArg (·.2.1) s.settled_sync)

/-- After an FSTART that is taken VBLANK is expected (R154). -/
theorem State.takeFstart_expect {s : State} (hlow : s.resetLow = false) (hst : s.scan.state ≠ .stopped) :
    s.takeFstart.scan.expect = .vblank := by
  cases hexpect : s.scan.expect with
  | vblank => rw [State.takeFstart_of_vblank hlow hst hexpect]; exact hexpect
  | fstart =>
    rw [State.takeFstart_of_fstart hlow hst hexpect]
    exact congrArg (·.2) s.settled.passed.swap_clock

/-- An FSTART over waiting commits acts as it does once the oldest of them is taken (R155). -/
theorem State.takeFstart_of_due {s : State} (hlow : s.resetLow = false) (hst : s.scan.state ≠ .stopped)
    (hexpect : s.scan.expect = .fstart) (hdue : s.commitsDue ≠ []) : s.takeFstart = s.takeCommit.takeFstart := by
  have hst' : s.takeCommit.scan.state ≠ .stopped := s.takeCommit_scanState ▸ hst
  have hexpect' : s.takeCommit.scan.expect = .fstart := (congrArg (·.2.2) s.takeCommit_sync).trans hexpect
  rw [State.takeFstart_of_fstart hlow hst hexpect, State.settled_of_some hdue,
    State.takeFstart_of_fstart (s.takeCommit_resetLow.trans hlow) hst' hexpect']

/-- With no commit waiting an expected FSTART is the swap alone. -/
theorem State.takeFstart_of_none_due {s : State} (hlow : s.resetLow = false) (hst : s.scan.state ≠ .stopped)
    (hexpect : s.scan.expect = .fstart) (hdue : s.commitsDue = []) : s.takeFstart = s.passed.swap := by
  rw [State.takeFstart_of_fstart hlow hst hexpect, State.settled_of_none hdue]

/-- In PRIMING and RUNNING an FSTART after a VBLANK acts as it does after that VBLANK's commit, and is late where that commit
was material (R155). -/
theorem State.takeFstart_after_vblank {s : State} (hlow : s.resetLow = false)
    (hst : s.scan.state = .priming ∨ s.scan.state = .running) (hdue : s.commitsDue = []) :
    let t := s.takeVblank
    let u := t.takeCommit
    u.takeFstart = t.takeFstart ∧ t.takeFstart.scan.frame = s.scan.frame + 1 ∧ t.takeFstart.scan.expect = .vblank
      ∧ ∀ j, u.resolver = .resolving j → t.takeFstart = u.passed.raise .planLate := by
  intro t u
  have hne : s.scan.state ≠ .stopped := by rcases hst with h | h <;> simp [h]
  have ht : t = _ := State.takeVblank_of_taken hlow hne
  have htlow : t.resetLow = false := by rw [ht]; exact hlow
  have htst : t.scan.state ≠ .stopped := by rw [ht]; exact hne
  have htexpect : t.scan.expect = .fstart := by rw [ht]
  have htdue : t.commitsDue = [s.scan.frame + 1] := by
    rw [ht]
    rcases hst with h | h <;> simp [State.effectiveFrame, h, hdue]
  have hfstart : t.takeFstart = u.takeFstart := State.takeFstart_of_due htlow htst htexpect (by simp [htdue])
  refine ⟨hfstart.symm, ?_, State.takeFstart_expect htlow htst, fun j hj => ?_⟩
  · rw [State.takeFstart_frame, ht]
  · have husync : u.sync = t.sync := t.takeCommit_sync
    rw [hfstart, State.takeFstart_of_none_due (t.takeCommit_resetLow.trans htlow) (t.takeCommit_scanState ▸ htst)
      ((congrArg (·.2.2) husync).trans htexpect) (by rw [State.takeCommit_commitsDue, htdue]; rfl)]
    exact State.swap_of_resolving (s := u.passed) hj

/-- Settles O31: ignored, out of order, or passed on behind the commits that wait to a swap by the Resolver's state. -/
theorem fstartByScanStateAndResolver : Obligations.FstartByScanStateAndResolver := by
  intro s hlow passed
  refine ⟨fun hst => congrArg Host.Outcome.next (State.takeFstart_of_stopped hst),
    fun hst hexpect => congrArg Host.Outcome.next (State.takeFstart_of_vblank hlow hst hexpect),
    fun hst hexpect hdue => ?_, fun hst hexpect hdue => ?_, fun hst hdue => ?_, ?_⟩
  · have hswap : exec .fstart s = .next passed.swap :=
      congrArg Host.Outcome.next (State.takeFstart_of_none_due hlow hst hexpect hdue)
    refine ⟨fun hr => ?_, fun j hr => ?_, fun p hr => ?_⟩
    · rw [hswap, State.swap_of_idle (s := passed) hr]
    · rw [hswap, State.swap_of_resolving (s := passed) hr]; rfl
    · refine ⟨passed.install p, ?_, State.install_front _ p, State.install_resolver _ p, ?_, ?_⟩
      · rw [hswap, State.swap_of_ready (s := passed) hr]
      · rw [State.install_scan]
      · rw [State.install_scan]
  · exact ⟨s.takeCommit, rfl, congrArg Host.Outcome.next (State.takeFstart_of_due hlow hst hexpect hdue),
      s.takeCommit_commitsDue⟩
  · obtain ⟨hsame, hframe, hexpect, hlate⟩ := State.takeFstart_after_vblank hlow hst hdue
    exact ⟨s.takeVblank, s.takeVblank.takeCommit, s.takeVblank.takeFstart, rfl, rfl, rfl,
      congrArg Host.Outcome.next hsame, hframe, hexpect, hlate⟩
  · intro t ht
    obtain rfl := Host.Outcome.next.inj ht
    exact s.takeFstart_frame

/-! ### The installed plan (R126 to R131) -/

theorem NoticeSet.isEmpty_eq (n : NoticeSet) : n.isEmpty = decide (n = NoticeSet.empty) := by
  rcases n with ⟨_ | _, _ | _, _ | _, _ | _⟩ <;> rfl

/-- The notices of a swap, in the rules' own words (R127, R128). -/
theorem swapNotices_eq (awaiting mark shows : Bool) (n : NoticeSet) :
    swapNotices awaiting (visibilityChange mark shows) n =
      { applied := n.applied || awaiting, lapsed := n.lapsed, retired := n.retired
        visibility := if shows = mark then n.visibility else if shows then some .shown else some .hidden } := by
  cases awaiting <;> cases mark <;> cases shows <;>
    simp [swapNotices, visibilityChange, NoticeSet.withApplied, NoticeSet.withVisibility]

theorem State.swapWakesSup_eq (s : State) (p : Plan) :
    s.swapWakesSup p = (s.tagMaps.get .sup).any (fun e =>
      decide (e.notices = NoticeSet.empty) && decide ((s.swapEntry p e).notices ≠ NoticeSet.empty)) := by
  simp only [State.swapWakesSup, NoticeSet.isEmpty_eq, decide_not]

theorem afterInstall_of_taken {st : ScanState} (h : st ≠ .stopped) :
    afterInstall st = if st = .priming then .running else st := by
  cases st <;> simp_all [afterInstall]

theorem State.install_table (s : State) (p : Plan) (k : Slot) :
    (s.install p).table[k] = s.table[k].map (fun r => { r with awaiting := false }) := by
  simp only [State.install, State.raiseIf_table, getElem_map_slot]

theorem State.install_shown (s : State) (p : Plan) (k : Slot) :
    (s.install p).shown[k] = (s.table[k].isSome && p.shows k) := by
  simp only [State.install, State.raiseIf_shown, getElem_ofFn_slot]

theorem State.install_tagMaps (s : State) (p : Plan) (x : Session) :
    (s.install p).tagMaps.get x = (s.tagMaps.get x).map (s.swapEntry p) := by
  simp only [State.install, State.raiseIf_tagMaps, PerSession.get_make]

theorem State.install_alerts (s : State) (p : Plan) :
    (s.install p).alerts =
      { s.alerts with
        pending :=
          { s.alerts.pending with
            planReduced := s.alerts.pending.planReduced || decide (p.status = .reduced)
            pinNotice := s.alerts.pending.pinNotice || s.swapWakesSup p } } := by
  unfold State.install
  cases decide (p.status = .reduced) <;> cases s.swapWakesSup p <;> simp [State.raiseIf, State.raise, AlertSet.raise]

/-- A swap writes the table, the Tag Maps, the marks, the plan, the Resolver, the scan state and the alerts, and no other block. -/
theorem State.install_frame (s : State) (p : Plan) :
    s.install p =
      { s with table := (s.install p).table, tagMaps := (s.install p).tagMaps, shown := (s.install p).shown, front := some p
               resolver := .idle, scan := { s.scan with state := afterInstall s.scan.state }
               alerts := (s.install p).alerts } := by
  unfold State.install
  cases decide (p.status = .reduced) <;> cases s.swapWakesSup p <;> rfl

/-- Settles O32, block by block of what a swap installs. -/
theorem swapInstallsTheReadyPlan : Obligations.SwapInstallsTheReadyPlan := by
  intro p s hlow hst hexpect hready hdue names noticed woken
  have hfstart : exec .fstart s = .next (s.passed.install p) := by
    refine congrArg Host.Outcome.next ((State.takeFstart_of_none_due hlow hst hexpect hdue).trans ?_)
    exact State.swap_of_ready (s := s.passed) hready
  have hnoticed : s.passed.swapEntry p = noticed := by
    funext e
    simp only [State.swapEntry, swapNotices_eq]
    rfl
  have hwoken : s.passed.swapWakesSup p = woken := by rw [State.swapWakesSup_eq, hnoticed]; rfl
  refine ⟨s.passed.install p, hfstart, ?_, State.install_table _ p, State.install_shown _ p, fun x => ?_, ?_⟩
  · refine (s.passed.install_frame p).trans ?_
    rw [show s.passed.scan.state = s.scan.state from rfl, afterInstall_of_taken hst]
    rfl
  · rw [State.install_tagMaps, hnoticed]; rfl
  · rw [State.install_alerts, hwoken]; rfl

end Sys2Proof.Machine
end

section
/-! PROOFS. What every command leaves of the sync expectation, the front plan and the scan link (O52, O53, O47). -/

namespace Sys2Proof.Machine

set_option Elab.async false

/-! ### Port events leave the scan side alone -/

/-- The commands that are happenings at one port. -/
def isPortEvent : Instr → Bool
  | .selectFall _ | .writeCommand _ | .readCommand _ | .badCommandByte _ _ | .headerFramingCheck _ _ _ _
  | .requestDecision _ _ | .responseSent _ | .selectRise _ | .statusByteSent _ => true
  | _ => false

theorem State.checkHeader_scanSide (s : State) (p : Port) (k q n : Byte) :
    (s.checkHeader p k q n).scanSide = s.scanSide := by
  unfold State.checkHeader
  split
  · split
    · unfold State.endHeader; split <;> rfl
    · rfl
  · rfl

theorem State.receiveBytes_scanSide (s : State) (p : Port) (l : List Byte) :
    (s.receiveBytes p l).scanSide = s.scanSide := by
  unfold State.receiveBytes
  split
  · split <;> rfl
  · rfl
  · rfl

theorem exec_portEvent_scanSide {c : Instr} {s t : State} (hc : isPortEvent c = true) (h : exec c s = .next t) :
    t.scanSide = s.scanSide := by
  cases c <;> try cases hc
  all_goals obtain rfl := Host.Outcome.next.inj h
  case selectFall p => unfold State.selectFall; split <;> rfl
  case writeCommand p => unfold State.writeCommand; split <;> rfl
  case readCommand p => unfold State.readCommand; split <;> rfl
  case badCommandByte p b =>
    split
    · rfl
    · unfold State.badCommand; split <;> rfl
  case headerFramingCheck p k q n => exact s.checkHeader_scanSide p k q n
  case requestDecision p l => exact s.receiveBytes_scanSide p l
  case responseSent p => unfold State.finishResponse; split <;> rfl
  case selectRise p => rfl
  case statusByteSent p => unfold State.statusSent; split <;> rfl

/-! ### The events, each with what it does -/

theorem queryOfBytes_plan : queryOfBytes [0x01#8] = some .planQuery := rfl

theorem queryOfBytes_band (i : Byte) : queryOfBytes [0x03#8, i] = some (.bandQuery i) := rfl

theorem word16Of_toNat (hi lo : Byte) : (word16Of hi lo).toNat = 256 * hi.toNat + lo.toNat := by
  have h : (word16Of hi lo).toNat = hi.toNat <<< 8 ||| lo.toNat := BitVec.toNat_append hi lo
  rw [h, ← Nat.shiftLeft_add_eq_or_of_lt lo.isLt, Nat.shiftLeft_eq, Nat.mul_comm]

/-- A 16-bit field reads back from its two bytes. -/
theorem word16Of_bytes (w : Word16) : word16Of (w.extractLsb' 8 8) (w.extractLsb' 0 8) = w := by
  apply BitVec.eq_of_toNat_eq
  simp only [word16Of_toNat, BitVec.extractLsb'_toNat, Nat.shiftRight_eq_div_pow]
  omega

theorem queryOfBytes_line (y : Word16) :
    queryOfBytes [0x02#8, y.extractLsb' 8 8, y.extractLsb' 0 8] = some (.lineQuery y) :=
  congrArg (fun w => some (Instr.lineQuery w)) (word16Of_bytes y)

theorem queryOfBytes_unknown {code : Byte} (h : ¬ (code = planCode ∨ code = lineCode ∨ code = bandCode)) :
    queryOfBytes [code] = some (.unknownQuery code) := by
  simp only [planCode, lineCode, bandCode, not_or] at h
  obtain ⟨hplan, hline, hband⟩ := h
  simp [queryOfBytes, hplan, hline, hband]

/-- What a command that is no request does: nothing, what its line, query, commit or completion does, or what its port does. -/
inductive EventEffect (s : State) : Instr → State → Prop
  | none (c : Instr) : EventEffect s c s
  | vblank : EventEffect s .vblank s.takeVblank
  | fstart : EventEffect s .fstart s.takeFstart
  | reset : EventEffect s (.resetN .low) s.heldInReset
  | released : EventEffect s (.resetN .high) { s with resetLow := false }
  | commit (c : Instr) : EventEffect s c s.takeCommit
  | completed {j : ResolveJob} (hj : s.resolver = .resolving j) :
    EventEffect s .resolveCompletion { s with resolver := .ready j.plan }
  | query {code : Byte} {rest : List Byte} {c : Instr} (hc : queryOfBytes (code :: rest) = some c) (form : State → Answer) :
    EventEffect s c (s.query code form)
  | answerSent : EventEffect s .answerSent s.answerSent
  | port {c : Instr} {t : State} (hc : isPortEvent c = true) (h : exec c s = .next t) : EventEffect s c t

theorem exec_event {c : Instr} {s t : State} (hc : c.request = none) (h : exec c s = .next t) : EventEffect s c t := by
  by_cases hport : isPortEvent c = true
  · exact .port hport h
  cases c
  all_goals try exact absurd hc (Option.some_ne_none _)
  all_goals try exact absurd rfl hport
  all_goals obtain rfl := Host.Outcome.next.inj h
  case vblank => exact .vblank
  case fstart => exact .fstart
  case resetN level => cases level with
    | low => exact .reset
    | high => exact .released
  case commit => exact .commit _
  case leaseLapse k => split <;> [exact .commit _; exact .none _]
  case graceRetire k => split <;> [exact .commit _; exact .none _]
  case resolveCompletion =>
    unfold State.completeResolve
    split
    · next hj => exact .completed hj
    · exact .none _
    · exact .none _
  case planQuery => exact .query queryOfBytes_plan _
  case lineQuery y => exact .query (queryOfBytes_line y) _
  case bandQuery i => exact .query (queryOfBytes_band i) _
  case unknownQuery code =>
    split
    · exact .none _
    · next hcode => exact .query (queryOfBytes_unknown hcode) _
  case answerSent => exact .answerSent

/-! ### Requests, from the scan side -/

/-- A request from a port leaves of any block behind the ports what its rule leaves, where it is chosen and permitted, and else
what was there. -/
theorem exec_request_view {α : Type} (view : State → α) (hview : ∀ (s : State) (P : PerSession PortState) (l : Client),
      view (s.withPorts P l) = view s) {c : Instr} {p : Port} {r : Request} {s t : State}
    (hc : c.request = some (p, r)) (h : exec c s = .next t) :
    (¬ (s.choice = some (p, r) ∧ Permitted p r.call) → view t = view s)
      ∧ (s.choice = some (p, r) → Permitted p r.call →
          ∃ P l, view t = view (requestRule p r.call (s.withPorts P l)).1) := by
  obtain rfl := Host.Outcome.next.inj ((exec_request hc s).symm.trans h)
  by_cases hchoice : s.choice = some (p, r)
  · obtain ⟨P, l, hd⟩ := s.dequeue_eq_withPorts p
    have htake : view (s.serve p r (requestRule p r.call)) = view (requestOutcome p r.call (s.withPorts P l)).1 := by
      rw [State.serve_of_choice hchoice, ← hd]
      exact hview _ _ _
    refine ⟨fun hn => ?_, fun _ hp => ⟨P, l, ?_⟩⟩
    · rw [htake, requestOutcome_of_not_permitted (fun hp => hn ⟨hchoice, hp⟩)]
      exact hview s P l
    · rw [htake, requestOutcome_of_permitted hp]
  · rw [State.serve_of_not_choice hchoice]
    exact ⟨fun _ => rfl, fun hc => absurd hc hchoice⟩

/-! ### The sync expectation (R152) -/

/-- A request rule that sets the expectation to VBLANK: SOFT_RESET, and START where it is taken (R142, R145). -/
def restartsSync (c : Call) (s : State) : Prop :=
  c = .softReset ∨ (c = .start ∧ s.scan.state = .stopped ∧ s.scan.width ≠ 0 ∧ s.scan.height ≠ 0)

theorem startRequest_expect (s : State) :
    (startRequest s).1.scan.expect =
      if s.scan.state = .stopped ∧ s.scan.width ≠ 0 ∧ s.scan.height ≠ 0 then .vblank else s.scan.expect := by
  by_cases hst : s.scan.state = .stopped
  · by_cases hconf : s.scan.width = 0 ∨ s.scan.height = 0
    · rw [startRequest_of_unconfigured hst hconf, if_neg (by tauto)]
    · obtain ⟨hw, hh⟩ := not_or.mp hconf
      rw [startRequest_of_configured hst hw hh, if_pos ⟨hst, hw, hh⟩]
  · rw [startRequest_of_not_stopped hst, if_neg (fun h => hst h.1)]

theorem requestRule_expect {c : Call} (p : Port) (s : State) (h : ¬ restartsSync c s) :
    (requestRule p c s).1.scan.expect = s.scan.expect := by
  cases hc : movesScan c with
  | false => exact congrArg (fun z => z.1.expect) (requestRule_scanSide p c hc s).1
  | true =>
    cases c with
    | start => exact (startRequest_expect s).trans (if_neg (fun hst => h (.inr ⟨rfl, hst⟩)))
    | softReset => exact absurd (.inl rfl) h
    | configure w hgt bg g =>
      show (configureRequest w hgt bg g s).1.scan.expect = _
      unfold configureRequest
      split_ifs
      · rfl
      · rfl
      · split <;> rfl
    | hold => show (holdRequest s).1.scan.expect = _; unfold holdRequest; split_ifs <;> rfl
    | resumeScan => show (resumeScanRequest s).1.scan.expect = _; unfold resumeScanRequest; split_ifs <;> rfl
    | stop => rfl
    | clearTable =>
      have hcleared : s.clearTable.scan.expect = s.scan.expect := by rw [State.clearTable_eq]; rfl
      show (clearTableRequest s).1.scan.expect = _
      unfold clearTableRequest
      split
      · exact hcleared
      · exact hcleared
      · rfl
      · rfl
    | _ => cases hc

theorem requestRule_expect_of_restarts {c : Call} (p : Port) {s : State} (h : restartsSync c s) :
    (requestRule p c s).1.scan.expect = .vblank := by
  rcases h with rfl | ⟨rfl, hst⟩
  · rfl
  · exact (startRequest_expect s).trans (if_pos hst)

/-- After a request command the expectation is VBLANK where the request taken sets it, and else as it was. -/
theorem exec_request_expect {c : Instr} {p : Port} {r : Request} {s t : State} (hc : c.request = some (p, r))
    (h : exec c s = .next t) :
    (s.choice = some (p, r) ∧ Permitted p r.call ∧ restartsSync r.call s → t.scan.expect = .vblank)
      ∧ (¬ (s.choice = some (p, r) ∧ Permitted p r.call ∧ restartsSync r.call s) → t.scan.expect = s.scan.expect) := by
  obtain ⟨hkept, hruled⟩ := exec_request_view (fun u => u.scan.expect) (fun _ _ _ => rfl) hc h
  refine ⟨fun ⟨hchoice, hp, hrestarts⟩ => ?_, fun hn => ?_⟩
  · obtain ⟨P, l, hrule⟩ := hruled hchoice hp
    exact hrule.trans (requestRule_expect_of_restarts p (s := s.withPorts P l) hrestarts)
  · by_cases htaken : s.choice = some (p, r) ∧ Permitted p r.call
    · obtain ⟨P, l, hrule⟩ := hruled htaken.1 htaken.2
      exact hrule.trans (requestRule_expect p (s.withPorts P l) (fun hrestarts => hn ⟨htaken.1, htaken.2, hrestarts⟩))
    · exact hkept htaken

theorem State.query_scanSide (s : State) (code : Byte) (form : State → Answer) :
    ((s.query code form).scan, (s.query code form).front) = (s.scan, s.front) := by
  unfold State.query
  split
  · rfl
  · split <;> rfl

/-- No event but the sync lines and RESET_N moves the expectation. -/
theorem exec_event_expect {c : Instr} {s t : State} (hc : c.request = none) (hv : c ≠ .vblank) (hf : c ≠ .fstart)
    (hr : c ≠ .resetN .low) (h : exec c s = .next t) : t.scan.expect = s.scan.expect := by
  cases exec_event hc h with
  | none => rfl
  | vblank => exact absurd rfl hv
  | fstart => exact absurd rfl hf
  | reset => exact absurd rfl hr
  | released => rfl
  | commit => exact congrArg (·.2.2) s.takeCommit_sync
  | completed => rfl
  | query hc form => exact congrArg (·.1.expect) (s.query_scanSide _ form)
  | answerSent => rfl
  | port hc h => exact congrArg (·.1.expect) (exec_portEvent_scanSide hc h)

theorem State.takeVblank_expect (s : State) :
    s.takeVblank.scan.expect = if s.resetLow = false ∧ s.scan.state ≠ .stopped then .fstart else s.scan.expect := by
  by_cases htaken : s.resetLow = false ∧ s.scan.state ≠ .stopped
  · rw [if_pos htaken, State.takeVblank_of_taken htaken.1 htaken.2]
  · rw [if_neg htaken, State.takeVblank_of_not_taken]
    by_contra hn
    exact htaken (by simpa using hn)

theorem State.takeFstart_expect_eq (s : State) :
    s.takeFstart.scan.expect = if s.resetLow = false ∧ s.scan.state ≠ .stopped then .vblank else s.scan.expect := by
  by_cases htaken : s.resetLow = false ∧ s.scan.state ≠ .stopped
  · rw [if_pos htaken, State.takeFstart_expect htaken.1 htaken.2]
  · rw [if_neg htaken, State.takeFstart_of_not_taken]
    by_contra hn
    exact htaken (by simpa using hn)

/-- The command of a request that acts on the scan side is known by its call. -/
theorem eq_of_request {c : Instr} {p : Port} {r : Request} (hc : c.request = some (p, r)) :
    (r.call = .softReset → c = .softReset p r.seq) ∧ (r.call = .start → c = .start p r.seq)
      ∧ (r.call = .clearTable → c = .clearTable p r.seq) ∧ (r.call = .stop → c = .stop p r.seq) := by
  obtain ⟨seq, call⟩ := r
  refine ⟨?_, ?_, ?_, ?_⟩ <;> intro hcall <;> cases c <;> simp_all [Instr.request]

/-- What the rule of the expectation says of a request is what its rule does. -/
theorem restarts_iff {c : Instr} {p : Port} {r : Request} {s : State} (hc : c.request = some (p, r)) :
    (c = .resetN .low ∨ (∃ q, c = .softReset .sup q ∧ s.choice = some (.sup, ⟨q, .softReset⟩))
        ∨ (∃ q, c = .start .sup q ∧ s.choice = some (.sup, ⟨q, .start⟩) ∧ s.scan.state = .stopped
            ∧ s.scan.width ≠ 0 ∧ s.scan.height ≠ 0))
      ↔ s.choice = some (p, r) ∧ Permitted p r.call ∧ restartsSync r.call s := by
  constructor
  · rintro (rfl | ⟨q, rfl, hchoice⟩ | ⟨q, rfl, hchoice, hconf⟩)
    · cases hc
    · cases hc
      exact ⟨hchoice, .inr rfl, .inl rfl⟩
    · cases hc
      exact ⟨hchoice, .inr rfl, .inr ⟨rfl, hconf⟩⟩
  · rintro ⟨hchoice, hp, hcall | ⟨hcall, hconf⟩⟩
    · obtain rfl : p = .sup := hp.resolve_left (by simp [hcall, Call.kind, supervisorOnly])
      exact .inr (.inl ⟨r.seq, (eq_of_request hc).1 hcall, by rw [hchoice, ← hcall]⟩)
    · obtain rfl : p = .sup := hp.resolve_left (by simp [hcall, Call.kind, supervisorOnly])
      exact .inr (.inr ⟨r.seq, (eq_of_request hc).2.1 hcall, by rw [hchoice, ← hcall], hconf⟩)

/-- Settles O52: the sync lines, the two requests and RESET_N move the expectation, and nothing else does. -/
theorem syncExpectationFollowsItsRule : Obligations.SyncExpectationFollowsItsRule := by
  intro c s t h
  cases hc : c.request with
  | some z =>
    obtain ⟨p, r⟩ := z
    have hline (l : Instr) (hl : l.request = none) : c ≠ l := fun he => by rw [he, hl] at hc; cases hc
    rw [if_neg (fun hn => hline .vblank rfl hn.1), if_neg (fun hn => hline .fstart rfl hn.1)]
    obtain ⟨hrestarts, hkept⟩ := exec_request_expect hc h
    split
    · next hr => exact hrestarts ((restarts_iff hc).mp hr)
    · next hr => exact hkept (fun hn => hr ((restarts_iff hc).mpr hn))
  | none =>
    by_cases hv : c = .vblank
    · subst hv
      obtain rfl := Host.Outcome.next.inj h
      simpa using s.takeVblank_expect
    by_cases hf : c = .fstart
    · subst hf
      obtain rfl := Host.Outcome.next.inj h
      simpa using s.takeFstart_expect_eq
    rw [if_neg (fun hn => hv hn.1), if_neg (fun hn => hf hn.1)]
    by_cases hr : c = .resetN .low
    · rw [if_pos (.inl hr)]
      subst hr
      obtain rfl := Host.Outcome.next.inj h
      rfl
    · rw [if_neg, exec_event_expect hc hv hf hr h]
      rintro (hlow | ⟨q, rfl, -⟩ | ⟨q, rfl, -⟩)
      · exact hr hlow
      · cases hc
      · cases hc

/-! ### The front plan (R124) -/

/-- CONFIGURE, START, HOLD and RESUME_SCAN write Scan Control alone (R144 to R148, R156). -/
theorem requestRule_control {c : Call} (hc : movesScan c = true) (hstop : c ≠ .stop) (hclear : c ≠ .clearTable)
    (hreset : c ≠ .softReset) (p : Port) (s : State) : ∃ z, (requestRule p c s).1 = { s with scan := z } := by
  cases c with
  | stop => exact absurd rfl hstop
  | clearTable => exact absurd rfl hclear
  | softReset => exact absurd rfl hreset
  | configure w hgt bg g =>
    show ∃ z, (configureRequest w hgt bg g s).1 = _
    unfold configureRequest
    split_ifs
    · exact ⟨_, rfl⟩
    · exact ⟨_, rfl⟩
    · split <;> exact ⟨_, rfl⟩
  | start => show ∃ z, (startRequest s).1 = _; unfold startRequest; split_ifs <;> exact ⟨_, rfl⟩
  | hold => show ∃ z, (holdRequest s).1 = _; unfold holdRequest; split_ifs <;> exact ⟨_, rfl⟩
  | resumeScan => show ∃ z, (resumeScanRequest s).1 = _; unfold resumeScanRequest; split_ifs <;> exact ⟨_, rfl⟩
  | _ => cases hc

/-- CLEAR_TABLE clears the table where it is taken, and is refused elsewhere (R159, R160). -/
theorem clearTableRequest_fst (s : State) :
    (clearTableRequest s).1 = if s.scan.state = .stopped ∨ s.scan.state = .hold then s.clearTable else s := by
  unfold clearTableRequest
  cases s.scan.state <;> simp [clearReply]

/-- The rules that change the front plan: CLEAR_TABLE in HOLD, STOP and SOFT_RESET. -/
theorem requestRule_front (p : Port) (c : Call) (s : State) :
    (requestRule p c s).1.front = s.front
      ∨ (c = .clearTable ∧ s.scan.state = .hold ∧ (requestRule p c s).1.front =
          some (backgroundPlan s.scan.frame s.scan.width s.scan.height s.scan.background))
      ∨ ((c = .stop ∨ c = .softReset) ∧ (requestRule p c s).1.front = none) := by
  cases hc : movesScan c with
  | false => exact .inl (congrArg (·.2.2.1) (requestRule_scanSide p c hc s).1)
  | true =>
    by_cases hstop : c = .stop
    · exact .inr (.inr ⟨.inl hstop, by rw [hstop]; rfl⟩)
    by_cases hreset : c = .softReset
    · exact .inr (.inr ⟨.inr hreset, by rw [hreset]; rfl⟩)
    by_cases hclear : c = .clearTable
    · subst hclear
      rw [show (requestRule p .clearTable s).1 = _ from clearTableRequest_fst s, State.clearTable_eq]
      by_cases hst : s.scan.state = .hold
      · exact .inr (.inl ⟨rfl, hst, by simp [hst]⟩)
      · left
        split_ifs <;> rfl
    · obtain ⟨z, hz⟩ := requestRule_control hc hstop hclear hreset p s
      exact .inl (by rw [hz])

/-- A commit leaves the Resolver as it is or sets it to a resolve (R90, R91). -/
theorem State.takeCommit_ready {s : State} {p : Plan} (h : s.takeCommit.resolver = .ready p) : s.resolver = .ready p := by
  cases hdue : s.commitsDue with
  | nil => simpa [State.takeCommit, hdue] using h
  | cons f rest =>
    rw [State.takeCommit_of_due hdue, State.vblankCommit] at h
    split at h
    · exact absurd h nofun
    · rwa [State.commitParts_resolver] at h

theorem State.takeCommits_ready (n : Nat) {s : State} {p : Plan} (h : (s.takeCommits n).resolver = .ready p) :
    s.resolver = .ready p := by
  induction n generalizing s with
  | zero => exact h
  | succ n ih => exact State.takeCommit_ready (ih h)

/-- An FSTART changes the front plan to the plan that stood READY (R125, R126). -/
theorem State.takeFstart_front (s : State) :
    s.takeFstart.front = s.front ∨ ∃ p, s.resolver = .ready p ∧ s.takeFstart.front = some p := by
  unfold State.takeFstart
  split
  · exact .inl rfl
  · split
    · exact .inl rfl
    · have hfront : s.settled.front = s.front := State.takeCommits_view State.front State.takeCommit_front _ s
      show s.settled.passed.swap.front = s.front ∨ ∃ p, s.resolver = .ready p ∧ s.settled.passed.swap.front = some p
      cases hr : s.settled.resolver with
      | idle => rw [State.swap_of_idle (s := s.settled.passed) hr]; exact .inl hfront
      | resolving j => rw [State.swap_of_resolving (s := s.settled.passed) hr]; exact .inl hfront
      | ready p =>
        rw [State.swap_of_ready (s := s.settled.passed) hr]
        exact .inr ⟨p, State.takeCommits_ready _ hr, State.install_front _ p⟩

theorem State.takeVblank_front (s : State) : s.takeVblank.front = s.front := by
  unfold State.takeVblank
  split
  · rfl
  · exact State.raiseIf_front _ _ _

/-- Settles O53: the swap, the three requests and RESET_N change the front plan, and nothing else does. -/
theorem frontPlanChangesOnlyAsStated : Obligations.FrontPlanChangesOnlyAsStated := by
  intro c s t h hne
  cases hc : c.request with
  | some z =>
    obtain ⟨p, r⟩ := z
    obtain ⟨hkept, hruled⟩ := exec_request_view State.front (fun _ _ _ => rfl) hc h
    by_cases htaken : s.choice = some (p, r) ∧ Permitted p r.call
    · obtain ⟨hchoice, hp⟩ := htaken
      obtain ⟨P, l, hrule⟩ := hruled hchoice hp
      have hsup (hcall : r.call = .clearTable ∨ r.call = .stop ∨ r.call = .softReset) : p = .sup :=
        hp.resolve_left (by rcases hcall with h | h | h <;> simp [h, Call.kind, supervisorOnly])
      obtain hsame | ⟨hcall, hst, hplan⟩ | ⟨hcall, hnone⟩ := requestRule_front p r.call (s.withPorts P l)
      · exact absurd (hrule.trans hsame) hne
      · exact .inr (.inl ⟨r.seq, hsup (.inl hcall) ▸ (eq_of_request hc).2.2.1 hcall, hst, hrule.trans hplan⟩)
      · obtain hcall | hcall := hcall
        · exact .inr (.inr (.inl ⟨⟨r.seq, hsup (.inr (.inl hcall)) ▸ (eq_of_request hc).2.2.2 hcall⟩, hrule.trans hnone⟩))
        · exact .inr (.inr (.inr (.inl
            ⟨⟨r.seq, hsup (.inr (.inr hcall)) ▸ (eq_of_request hc).1 hcall⟩, hrule.trans hnone⟩)))
    · exact absurd (hkept htaken) hne
  | none =>
    cases exec_event hc h with
    | none => exact absurd rfl hne
    | vblank => exact absurd s.takeVblank_front hne
    | fstart => exact .inl ⟨rfl, s.takeFstart_front.resolve_left hne⟩
    | reset => exact .inr (.inr (.inr (.inr ⟨rfl, rfl⟩)))
    | released => exact absurd rfl hne
    | commit => exact absurd s.takeCommit_front hne
    | completed => exact absurd rfl hne
    | query hc form => exact absurd (congrArg (·.2) (s.query_scanSide _ form)) hne
    | answerSent => exact absurd rfl hne
    | port hc h => exact absurd (congrArg (·.2.2.1) (exec_portEvent_scanSide hc h)) hne

/-! ### The scan link (R133, R134) -/

theorem ScanEffect.outside {s t : State} (h : ScanEffect s t) :
    (t.link, t.resetLow, t.pending) = (s.link, s.resetLow, s.pending) := by
  cases h with
  | cleared => rw [State.clearTable_eq]; rfl
  | control c hpanel => rfl
  | configured hst hvalid hconflict => rfl
  | stopped => rfl
  | reset => rfl

/-- No request rule touches the link, RESET_N or the queue of commands. -/
theorem requestRule_outside (p : Port) (c : Call) (s : State) :
    ((requestRule p c s).1.link, (requestRule p c s).1.resetLow, (requestRule p c s).1.pending)
      = (s.link, s.resetLow, s.pending) := by
  cases hc : movesScan c with
  | false =>
    exact congrArg (fun z => (z.2.2.2.1, z.2.2.2.2.2.1, z.2.2.2.2.2.2)) (requestRule_scanSide p c hc s).1
  | true => exact (scanRule_effect hc p s).outside

theorem State.takeVblank_link (s : State) : s.takeVblank.link = s.link := by
  unfold State.takeVblank
  split
  · rfl
  · exact State.raiseIf_link _ _ _

@[simp] theorem State.takeCommit_link (s : State) : s.takeCommit.link = s.link :=
  congrArg (·.2.1) s.takeCommit_outsideCommit

theorem State.takeFstart_link (s : State) : s.takeFstart.link = s.link := by
  unfold State.takeFstart
  split
  · rfl
  · split
    · rfl
    · have hlink : s.settled.passed.link = s.link := State.takeCommits_view State.link State.takeCommit_link _ s
      show s.settled.passed.swap.link = s.link
      unfold State.swap
      split
      · simpa only [State.install, State.raiseIf_link] using hlink
      · exact hlink
      · exact hlink

/-- The bytes of PLAN, LINE, BAND and of any other code, and of nothing else, spell a query (R201). -/
theorem queryOfBytes_eq_some (l : List Byte) (c : Instr) :
    queryOfBytes l = some c ↔
      (l = [0x01#8] ∧ c = .planQuery) ∨ (∃ hi lo : Byte, l = [0x02#8, hi, lo] ∧ c = .lineQuery (hi ++ lo))
        ∨ (∃ i, l = [0x03#8, i] ∧ c = .bandQuery i)
        ∨ (∃ code, code ≠ 0x01#8 ∧ code ≠ 0x02#8 ∧ code ≠ 0x03#8 ∧ l = [code] ∧ c = .unknownQuery code) := by
  constructor
  · intro h
    unfold queryOfBytes at h
    split at h
    · next code =>
      split_ifs at h with hplan hothers
      · exact .inl ⟨by rw [hplan], (Option.some.inj h).symm⟩
      · exact .inr (.inr (.inr ⟨code, hplan, (not_or.mp hothers).1, (not_or.mp hothers).2, rfl, (Option.some.inj h).symm⟩))
    · next code i =>
      split_ifs at h with hband
      exact .inr (.inr (.inl ⟨i, by rw [hband], (Option.some.inj h).symm⟩))
    · next code hi lo =>
      split_ifs at h with hline
      exact .inr (.inl ⟨hi, lo, by rw [hline], (Option.some.inj h).symm⟩)
    · cases h
  · rintro (⟨rfl, rfl⟩ | ⟨hi, lo, rfl, rfl⟩ | ⟨i, rfl, rfl⟩ | ⟨code, hplan, hline, hband, rfl, rfl⟩)
    · rfl
    · rfl
    · rfl
    · simp [queryOfBytes, hplan, hline, hband]

/-- A query is refused while an answer is sent, and its LINK_BUSY is owed (R133, R134). -/
theorem State.query_of_answering {s : State} {a : Answer} {owed : List Byte} (hlow : s.resetLow = false)
    (hlink : s.link = .answering a owed) (code : Byte) (form : State → Answer) :
    s.query code form = { s with link := .answering a (owed ++ [code]) } := by
  simp only [State.query, hlow, Bool.false_eq_true, if_false, hlink]

theorem exec_query_of_answering {s : State} {a : Answer} {owed : List Byte} (hlow : s.resetLow = false)
    (hlink : s.link = .answering a owed) {code : Byte} {rest : List Byte} {c : Instr}
    (hc : queryOfBytes (code :: rest) = some c) :
    exec c s = .next { s with link := .answering a (owed ++ [code]) } := by
  have hquery (form : State → Answer) := State.query_of_answering hlow hlink code form
  rcases (queryOfBytes_eq_some _ _).mp hc with ⟨hl, rfl⟩ | ⟨hi, lo, hl, rfl⟩ | ⟨i, hl, rfl⟩ |
    ⟨other, hplan, hline, hband, hl, rfl⟩ <;> obtain ⟨rfl, -⟩ := List.cons.inj hl
  · exact congrArg Host.Outcome.next (hquery _)
  · exact congrArg Host.Outcome.next (hquery _)
  · exact congrArg Host.Outcome.next (hquery _)
  · refine congrArg Host.Outcome.next ((if_neg ?_).trans (hquery _))
    simp [planCode, lineCode, bandCode, hplan, hline, hband]

/-- Settles O47, by the spelling of queries, what a refused query does, and what every other command leaves of the link. -/
theorem answerInProgressIsFixed : Obligations.AnswerInProgressIsFixed := by
  refine ⟨queryOfBytes_eq_some, fun a owed s hlow hlink => ?_⟩
  intro refused
  refine ⟨fun code rest c hc => exec_query_of_answering hlow hlink hc, fun c t h hne => ?_⟩
  cases hc : c.request with
  | some z =>
    obtain ⟨p, r⟩ := z
    obtain ⟨hkept, hruled⟩ := exec_request_view State.link (fun _ _ _ => rfl) hc h
    by_cases htaken : s.choice = some (p, r) ∧ Permitted p r.call
    · obtain ⟨P, l, hrule⟩ := hruled htaken.1 htaken.2
      exact absurd (hrule.trans (congrArg (·.1) (requestRule_outside p r.call _))) hne
    · exact absurd (hkept htaken) hne
  | none =>
    cases exec_event hc h with
    | none => exact absurd rfl hne
    | vblank => exact absurd s.takeVblank_link hne
    | fstart => exact absurd s.takeFstart_link hne
    | reset => exact .inr (.inr ⟨rfl, rfl⟩)
    | released => exact absurd rfl hne
    | commit => exact absurd s.takeCommit_link hne
    | completed => exact absurd rfl hne
    | query hc form => exact .inl ⟨_, _, hc, State.query_of_answering hlow hlink _ form⟩
    | answerSent => exact .inr (.inl ⟨rfl, rfl⟩)
    | port hc h => exact absurd (congrArg (·.2.2.2.1) (exec_portEvent_scanSide hc h)) hne

end Sys2Proof.Machine
end

section
/-! PROOFS. The arbiter's choice, what a request taken leaves of the ports, and the DENIED answer (O3, O4, O5). -/

namespace Sys2Proof.Machine

set_option Elab.async false

/-! ### The arbiter's choice (R196) -/

theorem PortState.eligible_iff (q : PortState) : q.eligible = true ↔ q.buffer ≠ [] ∧ q.responses.length < 4 := by
  rw [PortState.eligible, Bool.and_eq_true, decide_eq_true_iff]
  simp [Config.queueCapacity]

/-- The choice is the oldest request of the port chosen. -/
theorem State.choice_of_port {s : State} {p : Port} (h : s.chosenPort = some p) (he : s.Eligible p) :
    ∃ r l, (s.ports.get p).buffer = r :: l ∧ s.choice = some (p, r) := by
  obtain ⟨r, l, hbuffer⟩ := List.exists_cons_of_ne_nil he.1
  exact ⟨r, l, hbuffer, by simp [State.choice, h, hbuffer]⟩

theorem State.chosenPort_of_admitted {s : State} (hlow : s.resetLow = false) (hdue : s.commitsDue = []) :
    s.chosenPort =
      if s.Eligible .sup then some .sup
      else ((rotation s.lastServed).find? (fun n => decide (s.Eligible (.client n)))).map .client := by
  have helig (p : Port) : (s.ports.get p).eligible = decide (s.Eligible p) := by
    rw [Bool.eq_iff_iff, PortState.eligible_iff, decide_eq_true_iff]
  simp [State.chosenPort, hlow, hdue, helig]

/-- The rotation looks at the client ports in the order of their places after the last one served. -/
theorem rotation_eq (last : Client) : rotation last = (List.finRange 4).map (fun i => last + 1 + i) := by
  revert last
  decide

/-- The first of the places, in order, at which something holds. -/
theorem find_rotation {P : Client → Bool} {last : Client} {i : Fin 4} (hfirst : ∀ j : Fin 4, j < i → P (last + 1 + j) = false)
    (hi : P (last + 1 + i) = true) : (rotation last).find? P = some (last + 1 + i) := by
  rw [rotation_eq, List.find?_map]
  have hplace : (List.finRange 4).find? (P ∘ fun i => last + 1 + i) = some i := by
    rw [← Fin.find?_eq_find?_finRange, Fin.find?_eq_some_iff]
    exact ⟨hi, hfirst⟩
  rw [hplace]; rfl

/-- Settles O3, by the port chosen. -/
theorem arbiterServesSpThenRotatesClients : Obligations.ArbiterServesSpThenRotatesClients := by
  intro s
  refine ⟨fun h => ?_, fun hlow hdue => ⟨fun hsup => ?_, fun i hsup hfirst hi => ?_, fun hnone => ?_⟩⟩
  · cases hchoice : s.choice with
    | none => rfl
    | some z =>
      obtain ⟨hdue, hlow⟩ := State.choice_admits hchoice
      rcases h with h | h
      · simp [hlow] at h
      · exact absurd hdue h
  · exact State.choice_of_port (by rw [State.chosenPort_of_admitted hlow hdue, if_pos hsup]) hsup
  · refine State.choice_of_port ?_ hi
    rw [State.chosenPort_of_admitted hlow hdue, if_neg hsup,
      find_rotation (fun j hj => decide_eq_false (hfirst j hj)) (decide_eq_true hi)]
    rfl
  · have hport : s.chosenPort = none := by
      rw [State.chosenPort_of_admitted hlow hdue, if_neg (hnone .sup), Option.map_eq_none_iff, List.find?_eq_none]
      intro n _ hn
      exact hnone _ (of_decide_eq_true hn)
    simp [State.choice, hport]

/-! ### Requests taken (R195, R196) -/

/-- No rule but SOFT_RESET's touches the commits that wait. -/
theorem requestRule_commitsDue {c : Call} (hc : c ≠ .softReset) (p : Port) (s : State) :
    (requestRule p c s).1.commitsDue = s.commitsDue := by
  cases hm : movesScan c with
  | false => exact congrArg (·.2.2.2.2.1) (requestRule_scanSide p c hm s).1
  | true =>
    by_cases hstop : c = .stop
    · rw [hstop]; rfl
    by_cases hclear : c = .clearTable
    · rw [hclear, show (requestRule p .clearTable s).1 = _ from clearTableRequest_fst s]
      split
      · rw [State.clearTable_eq]; rfl
      · rfl
    · obtain ⟨z, hz⟩ := requestRule_control hm hstop hclear hc p s
      rw [hz]

/-- Settles O4: the rule runs over everything but the ports, and the port it came from is answered. -/
theorem requestTakenGainsOneResponse : Obligations.RequestTakenGainsOneResponse := by
  intro c p r s hc hchoice hreset
  replace hreset : r.call ≠ .softReset ∨ p ≠ .sup := not_and_or.mp hreset
  refine ⟨_, (requestOutcome p r.call s).2, exec_eq_answered hc hchoice hreset, ?_⟩
  by_cases hp : Permitted p r.call
  · have hcall : r.call ≠ .softReset := by
      rcases hp with hp | rfl
      · intro hcall; simp [hcall, Call.kind, supervisorOnly] at hp
      · exact hreset.resolve_right (fun h => h rfl)
    have houtside := requestRule_outside p r.call s
    have hfree := requestRule_portFree p r.call hcall
    simp only [Prod.mk.injEq] at houtside
    obtain ⟨hlink, hlow, hpending⟩ := houtside
    rw [requestOutcome_of_permitted hp]
    refine ⟨?_, ?_, hlink, requestRule_commitsDue hcall p s, hlow, hpending⟩
    · simp only [State.answered, hfree.ports]
    · cases p <;> simp only [State.answered, hfree.lastServed]
  · rw [requestOutcome_of_not_permitted hp]
    exact ⟨rfl, rfl, rfl, rfl, rfl, rfl⟩

/-! ### DENIED (R198) -/

/-- A rule never answers DENIED: that answer comes before any rule. -/
def NeverDenies (f : State → State × Reply) : Prop := ∀ s : State, (f s).2.code ≠ .denied

theorem ite_neverDenies {c : Prop} [Decidable c] {a b : State × Reply} (ha : a.2.code ≠ .denied) (hb : b.2.code ≠ .denied) :
    (if c then a else b).2.code ≠ .denied := by
  split
  · exact ha
  · exact hb

theorem State.sessionRefusal_ne_denied {s : State} {p : Port} {a : Access} {c : ResultCode}
    (h : s.sessionRefusal p a = some c) : c ≠ .denied := by
  rintro rfl
  cases p with
  | sup => cases h
  | client n =>
    replace h : a.refusal (s.sessions.get (.client n)).state = some .denied := h
    cases hst : (s.sessions.get (.client n)).state <;> cases a <;> rw [hst] at h <;> cases h

theorem State.regionByTag_ne_denied {s : State} {x : Session} {tag : Word16} {c : ResultCode}
    (h : s.regionByTag x tag = .error c) : c ≠ .denied := by
  rintro rfl
  unfold State.regionByTag at h
  split at h
  · cases h
  · split at h
    · cases h
    · split at h
      · cases h
      · split at h <;> cases h

section
variable (p : Port)

/-! Sessions -/

theorem attachRequest_neverDenies : NeverDenies (attachRequest p) := by
  intro s
  cases p with
  | sup => exact nofun
  | client n => unfold attachRequest; dsimp only; split <;> exact nofun

theorem detachRequest_neverDenies : NeverDenies (detachRequest p) := by
  intro s
  cases p with
  | sup => exact nofun
  | client n => unfold detachRequest; dsimp only; split <;> exact nofun

theorem changePending_neverDenies (b : Byte) (f : SessionRecord → PendingChange) : NeverDenies (changePending b f) := by
  intro s
  unfold changePending
  split
  · exact nofun
  · split <;> exact nofun

theorem evictRequest_neverDenies (b : Byte) : NeverDenies (evictRequest b) := by
  intro s
  unfold evictRequest
  split
  · exact nofun
  · split <;> exact nofun

theorem setLimitsRequest_neverDenies (a b c d : Byte) : NeverDenies (setLimitsRequest a b c d) := by
  intro s
  unfold setLimitsRequest
  split
  · exact nofun
  · (repeat' apply ite_neverDenies) <;> exact nofun

/-! Regions -/

theorem openRequest_neverDenies (b : FieldBlock) : NeverDenies (openRequest p b) := by
  intro s
  cases p with
  | sup => exact ite_neverDenies nofun nofun
  | client n =>
    simp only [openRequest, openClient]
    split
    · next h => exact State.sessionRefusal_ne_denied h
    · refine ite_neverDenies nofun (ite_neverDenies nofun (ite_neverDenies nofun (ite_neverDenies nofun
        (ite_neverDenies nofun (ite_neverDenies nofun (ite_neverDenies nofun (ite_neverDenies nofun ?_)))))))
      split <;> exact nofun

theorem pinRequest_neverDenies (b : FieldBlock) : NeverDenies (pinRequest b) := by
  intro s
  unfold pinRequest
  refine ite_neverDenies nofun (ite_neverDenies nofun (ite_neverDenies nofun (ite_neverDenies nofun
    (ite_neverDenies nofun (ite_neverDenies nofun (ite_neverDenies nofun ?_))))))
  split <;> exact nofun

theorem amendChecked_neverDenies (b : FieldBlock) (k : Slot) (r : Region) : NeverDenies (amendChecked p b k r) := by
  intro s
  unfold amendChecked
  (repeat' apply ite_neverDenies) <;> exact nofun

theorem amendRequest_neverDenies (b : FieldBlock) : NeverDenies (amendRequest p b) := by
  intro s
  unfold amendRequest
  split
  · next h => exact State.sessionRefusal_ne_denied h
  · split
    · next h => exact State.regionByTag_ne_denied h
    · split
      · exact nofun
      · exact nofun
      · exact amendChecked_neverDenies p b _ _ s
      · exact amendChecked_neverDenies p b _ _ s

theorem renewRegion_neverDenies (k : Slot) (r : Region) : NeverDenies (renewRegion k r) := by
  intro s
  unfold renewRegion
  split
  · exact nofun
  · exact nofun
  · exact nofun
  · (repeat' apply ite_neverDenies) <;> exact nofun

theorem renewRequest_neverDenies (tag : Word16) : NeverDenies (renewRequest p tag) := by
  intro s
  cases p with
  | sup => exact nofun
  | client n =>
    unfold renewRequest
    dsimp only
    split
    · next h => exact State.sessionRefusal_ne_denied h
    · refine ite_neverDenies nofun ?_
      split
      · next h => exact State.regionByTag_ne_denied h
      · exact renewRegion_neverDenies _ _ s

theorem removeRegion_neverDenies (kind : EntryKind) (k : Slot) (r : Region) : NeverDenies (removeRegion p kind k r) := by
  intro s
  unfold removeRegion
  split
  · exact nofun
  · exact nofun
  · exact ite_neverDenies nofun nofun
  · exact ite_neverDenies nofun nofun

theorem releaseRequest_neverDenies (tag : Word16) : NeverDenies (releaseRequest p tag) := by
  intro s
  cases p with
  | sup => exact nofun
  | client n =>
    unfold releaseRequest
    dsimp only
    split
    · next h => exact State.sessionRefusal_ne_denied h
    · split
      · next h => exact State.regionByTag_ne_denied h
      · exact removeRegion_neverDenies _ _ _ _ s

theorem unpinRequest_neverDenies (tag : Word16) : NeverDenies (unpinRequest tag) := by
  intro s
  unfold unpinRequest
  split
  · next h => exact State.regionByTag_ne_denied h
  · exact removeRegion_neverDenies _ _ _ _ s

theorem lookupRequest_neverDenies (tag : Word16) : NeverDenies (lookupRequest p tag) := by
  intro s
  unfold lookupRequest
  split
  · next h => exact State.sessionRefusal_ne_denied h
  · split
    · next h => exact State.regionByTag_ne_denied h
    · exact nofun

theorem lookupSlotRequest_neverDenies (slot : Byte) : NeverDenies (lookupSlotRequest slot) := by
  intro s
  unfold lookupSlotRequest
  split <;> exact nofun

/-! The other requests -/

theorem probeRequest_neverDenies (x y : Word16) : NeverDenies (probeRequest p x y) := by
  intro s
  unfold probeRequest
  split
  · next h => exact State.sessionRefusal_ne_denied h
  · (repeat' apply ite_neverDenies) <;> exact nofun

theorem walkStartRequest_neverDenies (filter : Byte) : NeverDenies (walkStartRequest p filter) := by
  intro s
  unfold walkStartRequest
  split
  · next h => exact State.sessionRefusal_ne_denied h
  · split <;> exact nofun

theorem walkNextRequest_neverDenies : NeverDenies (walkNextRequest p) := by
  intro s
  unfold walkNextRequest
  split
  · next h => exact State.sessionRefusal_ne_denied h
  · split <;> exact nofun

theorem fetchNoticesRequest_neverDenies : NeverDenies (fetchNoticesRequest p) := by
  intro s
  unfold fetchNoticesRequest
  split
  · next h => exact State.sessionRefusal_ne_denied h
  · exact nofun

theorem configureRequest_neverDenies (w h : Word16) (bg : Colour) (g : Byte) : NeverDenies (configureRequest w h bg g) := by
  intro s
  unfold configureRequest
  refine ite_neverDenies nofun (ite_neverDenies nofun ?_)
  split <;> exact nofun

theorem clearTableRequest_neverDenies : NeverDenies clearTableRequest := by
  intro s
  unfold clearTableRequest
  split <;> exact nofun

theorem setAlertMaskRequest_neverDenies (m : Byte) : NeverDenies (setAlertMaskRequest m) := by
  intro s
  unfold setAlertMaskRequest
  split <;> exact nofun

end

theorem requestRule_neverDenies (p : Port) (c : Call) : NeverDenies (requestRule p c) := by
  cases c with
  | attach => exact attachRequest_neverDenies p
  | detach => exact detachRequest_neverDenies p
  | openRegion b => exact openRequest_neverDenies p b
  | amend b => exact amendRequest_neverDenies p b
  | renew t => exact renewRequest_neverDenies p t
  | release t => exact releaseRequest_neverDenies p t
  | lookup t => exact lookupRequest_neverDenies p t
  | probe x y => exact probeRequest_neverDenies p x y
  | walkStart f => exact walkStartRequest_neverDenies p f
  | walkNext => exact walkNextRequest_neverDenies p
  | fetchNotices => exact fetchNoticesRequest_neverDenies p
  | pin b => exact pinRequest_neverDenies b
  | unpin t => exact unpinRequest_neverDenies t
  | lookupSlot k => exact lookupSlotRequest_neverDenies k
  | setLimits c q l m => exact setLimitsRequest_neverDenies c q l m
  | suspend c => exact changePending_neverDenies c _
  | resume c => exact changePending_neverDenies c _
  | evict c => exact evictRequest_neverDenies c
  | configure w h b g => exact configureRequest_neverDenies w h b g
  | start => exact fun s => ite_neverDenies nofun (ite_neverDenies nofun nofun)
  | hold => exact fun s => ite_neverDenies nofun nofun
  | resumeScan => exact fun s => ite_neverDenies nofun nofun
  | stop => exact fun s => nofun
  | forceCommit => exact fun s => ite_neverDenies nofun nofun
  | clearTable => exact clearTableRequest_neverDenies
  | softReset => exact fun s => nofun
  | readStatus => exact fun s => nofun
  | fetchAlerts => exact fun s => nofun
  | setAlertMask m => exact setAlertMaskRequest_neverDenies m

/-- Settles O5: DENIED comes before the rule, and no rule answers it. -/
theorem supervisorOnlyKindsDeniedToClients : Obligations.SupervisorOnlyKindsDeniedToClients := by
  intro c p r s hc hchoice only
  have honly : r.call.kind ∈ only ↔ supervisorOnly r.call.kind = true := by
    cases r.call.kind <;> decide
  refine ⟨fun hp hkind => ?_, fun hn t h => ?_⟩
  · have hdenied : ¬ Permitted p r.call := by simp [Permitted, honly.mp hkind, hp]
    rw [exec_eq_answered hc hchoice (.inr hp), requestOutcome_of_not_permitted hdenied]
    rfl
  · have hp : Permitted p r.call := by
      simp only [Permitted]
      by_contra hne
      simp only [not_or, Bool.not_eq_false] at hne
      exact hn ⟨hne.2, honly.mpr hne.1⟩
    rw [exec_request hc, State.serve_of_choice hchoice] at h
    obtain rfl := Host.Outcome.next.inj h
    refine ⟨{ kind := r.call.kind, seq := r.seq, reply := (requestRule p r.call (s.dequeue p)).2 }, ?_,
      requestRule_neverDenies p r.call _⟩
    show (((requestOutcome p r.call (s.dequeue p)).1.answer p
      { kind := r.call.kind, seq := r.seq, reply := (requestOutcome p r.call (s.dequeue p)).2 }).ports.get p).responses.getLast?
        = _
    rw [requestOutcome_of_permitted hp]
    simp [State.answer, State.mapPort]

end Sys2Proof.Machine
end

section
/-! PROOFS. FETCH_NOTICES, the attention lines, the Alert Set's requests and ALERT (O42, O43). -/

namespace Sys2Proof.Machine

set_option Elab.async false

/-! ### FETCH_NOTICES (R166, R167) -/

/-- The entries of a map that hold notices. -/
def holding (m : List TagEntry) : List TagEntry := m.filter (fun e => decide (e.notices ≠ NoticeSet.empty))

/-- A delivered entry keeps its slot and loses its notices; one without a slot goes (R167). -/
def afterDelivery (out : List TagEntry) (e : TagEntry) : Option TagEntry :=
  if e ∈ out then e.slot.map (fun _ => { e with notices := NoticeSet.empty }) else some e

theorem holding_cons_of_empty {e : TagEntry} (m : List TagEntry) (h : e.notices.isEmpty = true) :
    holding (e :: m) = holding m := by
  rw [NoticeSet.isEmpty_eq, decide_eq_true_iff] at h
  simp [holding, h]

theorem holding_cons_of_notices {e : TagEntry} (m : List TagEntry) (h : ¬ e.notices.isEmpty = true) :
    holding (e :: m) = e :: holding m := by
  rw [NoticeSet.isEmpty_eq, decide_eq_true_iff] at h
  simp [holding, h]

theorem delivered_eq (m : List TagEntry) : delivered m = (holding m).take 8 := by
  simp only [delivered, holding, NoticeSet.isEmpty_eq, decide_not, Config.fetchLimit]

theorem not_mem_holding {e : TagEntry} {m : List TagEntry} (h : e.notices.isEmpty = true) : e ∉ holding m := by
  rw [NoticeSet.isEmpty_eq, decide_eq_true_iff] at h
  simp [holding, h]

/-- A fetch of the first `n` entries with notices, entry by entry. -/
theorem fetchMap_eq_filterMap (n : Nat) {m : List TagEntry} (hm : m.Nodup) :
    fetchMap n m = m.filterMap (afterDelivery ((holding m).take n)) := by
  induction m generalizing n with
  | nil => cases n <;> rfl
  | cons e m ih =>
    obtain ⟨he, hm⟩ := List.nodup_cons.mp hm
    cases n with
    | zero => exact (List.filterMap_some (l := e :: m)).symm
    | succ n =>
      rw [fetchMap]
      split
      · next hempty =>
        have hout : e ∉ (holding m).take (n + 1) := fun h => not_mem_holding hempty (List.mem_of_mem_take h)
        have hkept : afterDelivery ((holding m).take (n + 1)) e = some e := if_neg hout
        rw [holding_cons_of_empty m hempty, List.filterMap_cons_some hkept, ih (n + 1) hm]
      · next hnotices =>
        have htail : m.filterMap (afterDelivery (e :: (holding m).take n))
            = m.filterMap (afterDelivery ((holding m).take n)) := by
          refine List.filterMap_congr (fun f hf => ?_)
          have hne : f ≠ e := fun h => he (h ▸ hf)
          simp [afterDelivery, hne]
        rw [holding_cons_of_notices m hnotices, List.take_succ_cons, List.filterMap_cons, htail, ← ih n hm]
        cases hk : e.slot <;> simp [afterDelivery, hk]

/-- Notices remain after a fetch where more entries held them than it delivers (R166). -/
theorem mapHasNotices_fetchMap (n : Nat) (m : List TagEntry) :
    mapHasNotices (fetchMap n m) = decide (n < (holding m).length) := by
  induction m generalizing n with
  | nil => cases n <;> rfl
  | cons e m ih =>
    cases n with
    | zero =>
      rw [fetchMap, Bool.eq_iff_iff, decide_eq_true_iff, List.length_pos_iff_exists_mem]
      simp [mapHasNotices, holding, NoticeSet.isEmpty_eq]
    | succ n =>
      rw [fetchMap]
      split
      · next hempty =>
        rw [holding_cons_of_empty m hempty, ← ih (n + 1)]
        simp [mapHasNotices, hempty]
      · next hnotices =>
        rw [holding_cons_of_notices m hnotices, List.length_cons]
        simp only [Nat.add_lt_add_iff_right, ← ih n]
        split
        · rfl
        · simp [mapHasNotices, NoticeSet.isEmpty_eq]

theorem orderedMap.nodup {m : List TagEntry} (h : orderedMap m) : m.Nodup :=
  h.1.imp (fun hlt he => by rw [he] at hlt; exact BitVec.lt_irrefl _ hlt)

theorem State.attention_iff (s : State) (n : Client) :
    s.attention n = true ↔ s.resetLow = false ∧ ∃ e ∈ s.tagMaps.get (.client n), e.notices ≠ NoticeSet.empty := by
  simp [State.attention, mapHasNotices, NoticeSet.isEmpty_eq]

/-- A fetch is refused to a DETACHED client alone (R27). -/
theorem State.fetchRefusal_none {s : State} {p : Port} (h : p ≠ .sup → (s.sessions.get p).state ≠ .detached) :
    s.sessionRefusal p .fetch = none := by
  cases p with
  | sup => rfl
  | client n =>
    have hst := h nofun
    show Access.fetch.refusal (s.sessions.get (.client n)).state = none
    cases hcase : (s.sessions.get (.client n)).state <;> first | rfl | exact absurd hcase hst

theorem fetchNoticesRequest_of_taken {s : State} {p : Port} (h : p ≠ .sup → (s.sessions.get p).state ≠ .detached) :
    fetchNoticesRequest p s =
      ({ s with tagMaps := s.tagMaps.set p (fetchMap 8 (s.tagMaps.get p)) },
        { code := .ok
          body := .notices ((holding (s.tagMaps.get p)).take 8).length (decide (8 < (holding (s.tagMaps.get p)).length))
          records := ((holding (s.tagMaps.get p)).take 8).map .notice }) := by
  simp only [fetchNoticesRequest, State.fetchRefusal_none h, delivered_eq, State.mapTags, acceptWith,
    PerSession.get_set_self, Config.fetchLimit, mapHasNotices_fetchMap]

/-- Settles O42, by the fetch of a map entry by entry. -/
theorem fetchNoticesDeliversAndClears : Obligations.FetchNoticesDeliversAndClears := by
  refine ⟨fun n s => s.attention_iff n, fun p q s => ?_⟩
  intro r hchoice hordered held out
  have hpermitted : Permitted p r.call := .inl rfl
  refine ⟨fun hp hst => ?_, fun htaken => ?_⟩
  · refine exec_taken rfl hchoice hpermitted (.inl nofun) ?_
    show fetchNoticesRequest p s = _
    cases p with
    | sup => exact absurd rfl hp
    | client n =>
      have hrefusal : s.sessionRefusal (.client n) .fetch = some .notAttached := by
        show Access.fetch.refusal (s.sessions.get (.client n)).state = _
        rw [hst]; rfl
      simp only [fetchNoticesRequest, hrefusal, refuse_eq]
  · have hexec := exec_taken (c := .fetchNotices p q) rfl hchoice hpermitted (.inl nofun) (fetchNoticesRequest_of_taken htaken)
    refine ⟨?_, fun t ht n => ?_⟩
    · rw [hexec, fetchMap_eq_filterMap 8 hordered.nodup]
      rfl
    · rw [hexec] at ht
      obtain rfl := Host.Outcome.next.inj ht
      have hlow := (State.choice_admits hchoice).2
      show (!s.resetLow && mapHasNotices ((s.tagMaps.set p (fetchMap 8 (s.tagMaps.get p))).get (.client n))) = _
      split
      · next hp =>
        subst hp
        rw [hlow, PerSession.get_set_self, mapHasNotices_fetchMap]
        rfl
      · next hp =>
        rw [PerSession.get_set_of_ne _ _ (Ne.symm hp)]
        rfl

/-! ### The Alert Set (R173 to R176) -/

theorem State.alertLine_iff (s : State) :
    s.alertLine = true ↔
      s.resetLow = false
        ∧ ∃ b ∈ [(s.alerts.pending.planLate, s.alerts.mask.planLate), (s.alerts.pending.planReduced, s.alerts.mask.planReduced),
            (s.alerts.pending.syncOrder, s.alerts.mask.syncOrder), (s.alerts.pending.stageFull, s.alerts.mask.stageFull),
            (s.alerts.pending.clientLapsed, s.alerts.mask.clientLapsed), (s.alerts.pending.framing, s.alerts.mask.framing),
            (s.alerts.pending.pinNotice, s.alerts.mask.pinNotice)], b.1 = true ∧ b.2 = true := by
  simp [State.alertLine, AlertFlags.meets, or_assoc]

theorem State.supHasNotices_eq (s : State) :
    s.supHasNotices = (s.tagMaps.get .sup).any (fun e => decide (e.notices ≠ NoticeSet.empty)) := by
  simp only [State.supHasNotices, mapHasNotices, NoticeSet.isEmpty_eq, decide_not]

/-- What FETCH_ALERTS leaves of the alerts (R175). -/
def State.alertsFetched (s : State) : State :=
  ({ s with alerts := s.alerts.cleared } : State).raiseIf s.supHasNotices .pinNotice

theorem State.alertsFetched_frame (s : State) : s.alertsFetched = { s with alerts := s.alertsFetched.alerts } := by
  unfold State.alertsFetched
  cases s.supHasNotices <;> rfl

theorem State.alertsFetched_alerts (s : State) :
    s.alertsFetched.alerts = { s.alerts.cleared with
      pending := { planLate := false, planReduced := false, syncOrder := false, stageFull := false, clientLapsed := false,
                   framing := false, pinNotice := s.supHasNotices } } := by
  unfold State.alertsFetched
  cases s.supHasNotices <;> rfl

/-- Settles O43: the alerts left by a fetch, the line by its kinds, and the mask by bit 7. -/
theorem alertRequestsDeliverAndMask : Obligations.AlertRequestsDeliverAndMask := by
  refine ⟨fun q s hchoice => ?_, fun s => s.alertLine_iff, fun q m s => ?_⟩
  · intro held
    have hheld : s.supHasNotices = held := s.supHasNotices_eq
    refine ⟨s.alertsFetched, ?_, s.alertsFetched_frame, ?_, fun n => ?_, fun p => ?_, ?_⟩
    · rw [← hheld]
      exact exec_taken rfl hchoice (.inr rfl) (.inl nofun) rfl
    · rw [s.alertsFetched_alerts, hheld]
    · rw [s.alertsFetched_alerts]
      exact s.alerts.cleared_clients n
    · rw [s.alertsFetched_alerts]
      exact s.alerts.cleared_ports p
    · rw [s.alertsFetched_alerts]
      rfl
  · intro r hchoice mask
    refine ⟨fun hbit => ?_, fun hbit => ?_⟩
    · refine exec_taken rfl hchoice (.inr rfl) (.inl nofun) ?_
      show setAlertMaskRequest m s = _
      simp only [setAlertMaskRequest, alertMaskOf, hbit, if_true, refuse_eq]
    · intro t
      refine ⟨exec_taken rfl hchoice (.inr rfl) (.inl nofun) ?_, ?_⟩
      · show setAlertMaskRequest m s = _
        simp only [setAlertMaskRequest, alertMaskOf, hbit, Bool.false_eq_true, if_false, accept_eq, alertFlagsOf]
        rfl
      · have hlow : t.resetLow = false := (State.choice_admits hchoice).2
        rw [t.alertLine_iff, hlow]
        simp [t, State.answered, mask]

end Sys2Proof.Machine
end

section
/-! PROOFS. WALK_START, WALK_NEXT and PROBE (O44, O33). -/

namespace Sys2Proof.Machine

set_option Elab.async false

/-! ### Walks (R178 to R181) -/

/-- A slot is in a walk where its region's state is one of the filter's (R179). -/
theorem State.filterHolds_eq (s : State) (f : StateFilter) (k : Slot) :
    s.filterHolds f k = s.table[k].any (fun r =>
      match r.state with
      | .stagedNew => f.stagedNew
      | .live => f.live
      | .lapsed => f.lapsed
      | .retiring => f.retiring) := by
  unfold State.filterHolds
  cases s.table[k] with
  | none => rfl
  | some r => cases h : r.state <;> simp [StateFilter.admits, h]

theorem State.walkItems_eq (s : State) (p : Session) (f : StateFilter) :
    s.walkItems p f =
      if p = .sup then (slots.filter (s.filterHolds f)).map (fun k => (k.val, k))
      else (s.tagMaps.get p).filterMap (fun e => (e.slot.filter (s.filterHolds f)).map (fun k => (e.tag.toNat, k))) := by
  cases p with
  | sup => rfl
  | client n =>
    rw [if_neg nofun]
    refine List.filterMap_congr (fun e _ => ?_)
    cases e.slot with
    | none => rfl
    | some k => by_cases h : s.filterHolds f k = true <;> simp [h, Option.filter]

/-- A filter is four bits, not all of them clear (R179). -/
theorem filterOf_of_invalid {b : Byte} (h : b = 0 ∨ 15 < b.toNat) : filterOf b = none := by
  refine if_pos (h.imp id (fun hb hz => ?_))
  have := congrArg BitVec.toNat hz
  simp [BitVec.extractLsb'_toNat, Nat.shiftRight_eq_div_pow] at this
  omega

theorem filterOf_of_valid {b : Byte} (h0 : b ≠ 0) (h : b.toNat ≤ 15) :
    filterOf b =
      some { stagedNew := b.getLsbD 0, live := b.getLsbD 1, lapsed := b.getLsbD 2, retiring := b.getLsbD 3 } := by
  refine if_neg (not_or.mpr ⟨h0, fun hne => hne (BitVec.eq_of_toNat_eq ?_)⟩)
  simp [BitVec.extractLsb'_toNat, Nat.shiftRight_eq_div_pow]
  omega

section
variable {s : State} {p : Port} (hread : s.sessionRefusal p .read = none)
include hread

theorem walkStartRequest_of_invalid {b : Byte} (h : filterOf b = none) : walkStartRequest p b s = (s, plainReply .badRequest) := by
  simp only [walkStartRequest, hread, h, refuse_eq]

theorem walkStartRequest_of_valid {b : Byte} {f : StateFilter} (h : filterOf b = some f) :
    walkStartRequest p b s =
      walkReply p (s.walkItems p f) false s.scan.frame
        (fun key => { key := key, filter := f, startFrame := s.scan.frame, changed := false }) s := by
  simp only [walkStartRequest, hread, h]

theorem walkNextRequest_of_none (h : (s.sessions.get p).cursor = none) : walkNextRequest p s = (s, plainReply .noCursor) := by
  simp only [walkNextRequest, hread, h, refuse_eq]

theorem walkNextRequest_of_some {c : Cursor} (h : (s.sessions.get p).cursor = some c) :
    walkNextRequest p s =
      walkReply p ((s.walkItems p c.filter).filter (fun i => decide (c.key < i.1))) c.changed c.startFrame
        (fun key => { c with key := key }) s := by
  simp only [walkNextRequest, hread, h]

end

/-- Settles O44: the items are those of the walk, and both requests answer the first four of them. -/
theorem walksReportInKeyOrder : Obligations.WalksReportInKeyOrder := by
  intro p q b s hread admits items result
  have hpasses : s.sessionRefusal p .read = none := State.read_passes hread
  have hadmits (f : StateFilter) : s.filterHolds f = admits f := by
    funext k
    exact s.filterHolds_eq f k
  have hitems (f : StateFilter) : s.walkItems p f = items f := by rw [s.walkItems_eq, hadmits]
  refine ⟨fun hchoice => ⟨fun hb => ?_, fun h0 hb => ?_⟩, fun hchoice => ⟨fun hnone => ?_, fun c hc => ?_⟩⟩
  · exact exec_taken rfl hchoice (.inl rfl) (.inl nofun) (walkStartRequest_of_invalid hpasses (filterOf_of_invalid hb))
  · intro f
    refine exec_taken rfl hchoice (.inl rfl) (.inl nofun) ((walkStartRequest_of_valid hpasses (filterOf_of_valid h0 hb)).trans ?_)
    rw [hitems]
    rfl
  · exact exec_taken rfl hchoice (.inl rfl) (.inl nofun) (walkNextRequest_of_none hpasses hnone)
  · refine exec_taken rfl hchoice (.inl rfl) (.inl nofun) ((walkNextRequest_of_some hpasses hc).trans ?_)
    rw [hitems]
    rfl

/-! ### PROBE (R139, R140) -/

/-- A tiled plan has a band at each of its lines. -/
theorem Plan.exists_bandAt {p : Plan} (hp : p.Tiles) {y : Nat} (hy : y < p.height) :
    ∃ b ∈ p.bands, p.bandAt y = some b ∧ b.y0 ≤ y ∧ y < b.y1 := by
  obtain ⟨_, hr, hy0, hy1⟩ := (Plan.tiles_iff.mp hp).1.exists_run (Nat.zero_le y) hy
  obtain ⟨b, hb, rfl⟩ := List.mem_map.mp hr
  have hsome : (p.bandAt y).isSome = true := by
    rw [Plan.bandAt, List.find?_isSome]
    exact ⟨b, hb, by simpa using ⟨hy0, hy1⟩⟩
  obtain ⟨c, hc⟩ := Option.isSome_iff_exists.mp hsome
  exact ⟨c, List.mem_of_find?_eq_some hc, hc, by simpa using List.find?_some hc⟩

/-- Each band of a tiled plan has a span at each of the plan's columns. -/
theorem Plan.exists_spanAt {p : Plan} (hp : p.Tiles) {b : Band} (hb : b ∈ p.bands) {x : Nat} (hx : x < p.width) :
    ∃ sp ∈ b.spans, b.spanAt x = some sp ∧ sp.x0 ≤ x ∧ x < sp.x1 := by
  obtain ⟨_, hr, hx0, hx1⟩ := ((Plan.tiles_iff.mp hp).2 b hb).exists_run (Nat.zero_le x) hx
  obtain ⟨sp, hsp, rfl⟩ := List.mem_map.mp hr
  have hsome : (b.spanAt x).isSome = true := by
    rw [Band.spanAt, List.find?_isSome]
    exact ⟨sp, hsp, by simpa using ⟨hx0, hx1⟩⟩
  obtain ⟨c, hc⟩ := Option.isSome_iff_exists.mp hsome
  exact ⟨c, List.mem_of_find?_eq_some hc, hc, by simpa using List.find?_some hc⟩

/-! The names a probe reports are those of the requester's own span alone (R140). -/

theorem State.probeNames_of_other {s : State} {x : Session} {c : Content} (h : c.owner ≠ some x) :
    s.probeNames x c = (none, none, false) := if_pos h

theorem State.probeNames_of_shown {s : State} {x : Session} {c : Content} {k : Slot} (h : c.owner = some x)
    (hk : c.slot = some k) (hshown : s.shown[k] = true) :
    s.probeNames x c = (some k, s.table[k].map (fun r => r.tag), false) := by
  simp only [State.probeNames, h, ne_eq, not_true_eq_false, if_false, hk, hshown, if_true]

theorem State.probeNames_of_gone {s : State} {x : Session} {c : Content} {k : Slot} (h : c.owner = some x)
    (hk : c.slot = some k) (hshown : s.shown[k] = false) : s.probeNames x c = (some k, none, true) := by
  simp only [State.probeNames, h, ne_eq, not_true_eq_false, if_false, hk, hshown, Bool.false_eq_true]

section
variable {s : State} {p : Port} {x y : Word16} (hread : s.sessionRefusal p .read = none) (hh : s.scan.height ≠ 0)
  (hw : s.scan.width ≠ 0)
include hread hh hw

theorem probeRequest_of_outside (h : s.scan.width ≤ x.toNat ∨ s.scan.height ≤ y.toNat) :
    probeRequest p x y s = (s, plainReply .outOfBounds) := by
  have hconf : s.configured = true := State.configured_iff.mpr ⟨hw, hh⟩
  simp only [probeRequest, hread, hconf, Bool.not_true, Bool.false_eq_true, if_false, h, if_true, refuse_eq]

theorem probeRequest_of_inside (hx : x.toNat < s.scan.width) (hy : y.toNat < s.scan.height) :
    probeRequest p x y s = (s, okReply (.probe (s.probeReport p x.toNat y.toNat))) := by
  have hconf : s.configured = true := State.configured_iff.mpr ⟨hw, hh⟩
  have hin : ¬ (s.scan.width ≤ x.toNat ∨ s.scan.height ≤ y.toNat) := by omega
  simp only [probeRequest, hread, hconf, Bool.not_true, Bool.false_eq_true, if_false, hin, accept_eq]

end

/-- Settles O33: the band at the line, the span at the column, and the names of the requester's own span. -/
theorem probeReportsThePixel : Obligations.ProbeReportsThePixel := by
  intro port q x y s r hchoice hread hh hw
  have hpasses : s.sessionRefusal port .read = none := State.read_passes hread
  refine ⟨fun hout => ?_, fun hx hy => ⟨fun hnone => ?_, fun p hfront htiles hwidth hheight => ?_⟩⟩
  · exact exec_taken rfl hchoice (.inl rfl) (.inl nofun) (probeRequest_of_outside hpasses hh hw hout)
  · refine exec_taken rfl hchoice (.inl rfl) (.inl nofun) ((probeRequest_of_inside hpasses hh hw hx hy).trans ?_)
    simp only [State.probeReport, hnone, Option.bind_none]
  · obtain ⟨b, hb, hband, hy0, hy1⟩ := Plan.exists_bandAt htiles (hheight ▸ hy)
    obtain ⟨sp, hsp, hspan, hx0, hx1⟩ := Plan.exists_spanAt htiles hb (hwidth ▸ hx)
    refine ⟨b, hb, sp, hsp, hy0, hy1, hx0, hx1, (s.probeNames port sp.content).1, (s.probeNames port sp.content).2.1,
      (s.probeNames port sp.content).2.2, ?_, fun hother => ?_, fun hown k hk => ⟨?_, fun hshown => ?_, fun hgone => ?_⟩⟩
    · refine exec_taken rfl hchoice (.inl rfl) (.inl nofun) ((probeRequest_of_inside hpasses hh hw hx hy).trans ?_)
      simp only [State.probeReport, Option.mem_def.mp hfront, Option.bind_some, hband, hspan, Option.map_some]
    · rw [State.probeNames_of_other hother]
      exact ⟨rfl, rfl, rfl⟩
    · cases hshown : s.shown[k] with
      | true => rw [State.probeNames_of_shown hown hk hshown]
      | false => rw [State.probeNames_of_gone hown hk hshown]
    · rw [State.probeNames_of_shown hown hk hshown]
      exact ⟨rfl, rfl⟩
    · rw [State.probeNames_of_gone hown hk hgone]
      exact ⟨rfl, rfl⟩

end Sys2Proof.Machine
end

section
/-! PROOFS. A client's request touches its own session, map, regions and entries alone (O54). -/

namespace Sys2Proof.Machine

set_option Elab.async false

/-- Nothing of another session or owner has moved, and the alert mask stands. -/
structure State.OthersKept (n : Client) (s t : State) : Prop where
  sessions : ∀ x, x ≠ .client n → t.sessions.get x = s.sessions.get x
  tagMaps : ∀ x, x ≠ .client n → t.tagMaps.get x = s.tagMaps.get x
  regions : ∀ (k : Slot) (g : Region), s.table[k] = some g → g.owner ≠ .client n →
    t.table[k] = some g ∧ t.entryFor k = s.entryFor k ∧ t.shown[k] = s.shown[k]
  mask : t.alerts.mask = s.alerts.mask

namespace State.OthersKept

variable {n : Client} {s t u : State}

theorem refl (s : State) : s.OthersKept n s where
  sessions _ _ := rfl
  tagMaps _ _ := rfl
  regions _ _ hg _ := ⟨hg, rfl, rfl⟩
  mask := rfl

theorem trans (h : s.OthersKept n t) (h' : t.OthersKept n u) : s.OthersKept n u where
  sessions x hx := (h'.sessions x hx).trans (h.sessions x hx)
  tagMaps x hx := (h'.tagMaps x hx).trans (h.tagMaps x hx)
  regions k g hg ho := by
    obtain ⟨ht, hentry, hshown⟩ := h.regions k g hg ho
    obtain ⟨hu, hentry', hshown'⟩ := h'.regions k g ht ho
    exact ⟨hu, hentry'.trans hentry, hshown'.trans hshown⟩
  mask := h'.mask.trans h.mask

/-- A change of one slot that no other owner holds. -/
theorem of_slot {k : Slot} (hk : ∀ g, s.table[k] = some g → g.owner = .client n)
    (hsessions : ∀ x, x ≠ .client n → t.sessions.get x = s.sessions.get x)
    (htags : ∀ x, x ≠ .client n → t.tagMaps.get x = s.tagMaps.get x)
    (hother : ∀ j, j ≠ k → t.table[j] = s.table[j] ∧ t.entryFor j = s.entryFor j ∧ t.shown[j] = s.shown[j])
    (hmask : t.alerts.mask = s.alerts.mask) : s.OthersKept n t where
  sessions := hsessions
  tagMaps := htags
  regions j g hg ho := by
    have hj : j ≠ k := fun h => ho (hk g (h ▸ hg))
    obtain ⟨ht, hrest⟩ := hother j hj
    exact ⟨ht.trans hg, hrest⟩
  mask := hmask

/-- A change of the client's own session record. -/
theorem mapSession (s : State) (f : SessionRecord → SessionRecord) : s.OthersKept n (s.mapSession (.client n) f) where
  sessions _ hx := PerSession.get_set_of_ne _ _ hx
  tagMaps _ _ := rfl
  regions _ _ hg _ := ⟨hg, rfl, rfl⟩
  mask := rfl

/-- A change of the client's own Tag Map. -/
theorem mapTags (s : State) (f : List TagEntry → List TagEntry) : s.OthersKept n (s.mapTags (.client n) f) where
  sessions _ _ := rfl
  tagMaps _ hx := PerSession.get_set_of_ne _ _ hx
  regions _ _ hg _ := ⟨hg, rfl, rfl⟩
  mask := rfl

/-- An entry appended for a slot that no other owner holds. -/
theorem stage {e : PoolEntry} (hk : ∀ g, s.table[e.slot] = some g → g.owner = .client n) : s.OthersKept n (s.stage e) :=
  of_slot hk (fun _ _ => rfl) (fun _ _ => rfl)
    (fun j hj => ⟨rfl, by rw [State.entryFor_stage, if_neg hj.symm, Option.or_none], rfl⟩) rfl

theorem putRegion {k : Slot} (hk : ∀ g, s.table[k] = some g → g.owner = .client n) (r : Region) :
    s.OthersKept n (s.putRegion k r) :=
  of_slot hk (fun _ _ => rfl) (fun _ _ => rfl)
    (fun _ hj => ⟨(getElem_set_slot _ _ _ _).trans (if_neg hj.symm), rfl, rfl⟩) rfl

theorem createRegion {k : Slot} (hk : s.table[k] = none) (tag : Word16) (kind : EntryKind) (f : StagedFields) :
    s.OthersKept n (s.createRegion k (.client n) tag kind f) := by
  have hput : s.OthersKept n (s.putRegion k (newRegion (.client n) tag)) :=
    putRegion (fun g hg => by rw [hk] at hg; cases hg) _
  refine (hput.trans (stage fun g hg => ?_)).trans (mapTags _ _)
  replace hg : (s.putRegion k (newRegion (.client n) tag)).table[k] = some g := hg
  rw [State.putRegion, getElem_set_slot, if_pos rfl] at hg
  cases hg
  rfl

theorem stageAmend {k : Slot} (hk : ∀ g, s.table[k] = some g → g.owner = .client n) (f : StagedFields) :
    s.OthersKept n (s.stageAmend k f) := by
  have hentry (j : Slot) (hj : j ≠ k) : (s.stageAmend k f).entryFor j = s.entryFor j := by
    rw [State.stageAmend_entryFor, if_neg hj.symm]
  have hframe : ∃ pool, s.stageAmend k f = { s with pool := pool } := by
    unfold State.stageAmend
    split <;> exact ⟨_, rfl⟩
  obtain ⟨pool, hpool⟩ := hframe
  rw [hpool] at hentry ⊢
  exact of_slot hk (fun _ _ => rfl) (fun _ _ => rfl) (fun j hj => ⟨rfl, hentry j hj, rfl⟩) rfl

theorem stageRemoval (hs : s.TableFacts) {k : Slot} (hk : ∀ g, s.table[k] = some g → g.owner = .client n) (r : Region)
    (kind : EntryKind) (hroom : s.entryFor k = none → s.poolFull = false) : s.OthersKept n (s.stageRemoval k r kind) := by
  obtain ⟨-, -, -, -, hentry⟩ := hs.stageRemoval_pool (k := k) (kind := kind) r hroom
  have htable := fun j => s.stageRemoval_table k j r kind
  have hframe : ∃ pool table, s.stageRemoval k r kind = { s with pool := pool, table := table } := by
    unfold State.stageRemoval
    split <;> exact ⟨_, _, rfl⟩
  obtain ⟨pool, table, hframe⟩ := hframe
  rw [hframe] at hentry htable ⊢
  exact of_slot hk (fun _ _ => rfl) (fun _ _ => rfl)
    (fun j hj => ⟨(htable j).trans (if_neg hj.symm), hentry j hj, rfl⟩) rfl

theorem freeStaged {k : Slot} (hk : ∀ g, s.table[k] = some g → g.owner = .client n) :
    s.OthersKept n (s.freeStaged k (.client n)) := by
  refine of_slot hk (fun _ _ => rfl) (fun x hx => PerSession.get_set_of_ne _ _ hx) (fun j hj => ⟨?_, ?_, ?_⟩) rfl
  · exact (getElem_set_slot _ _ _ _).trans (if_neg hj.symm)
  · exact (s.entryFor_unstage k j).trans (if_neg hj)
  · exact (getElem_set_slot _ _ _ _).trans (if_neg hj.symm)

theorem depart (s : State) : s.OthersKept n (s.depart (.client n)) where
  sessions x hx := (s.depart_sessions n x).trans (if_neg hx)
  tagMaps x hx := (s.depart_tagMaps n x).trans (if_neg hx)
  regions k g hg ho := by
    refine ⟨?_, entryIn_filter_of_keeps (fun e _ he => ?_), ?_⟩
    · rw [s.depart_table n k, hg]
      exact departSlot_of_other ho
    · have howned : s.ownedBy (.client n) e.slot = decide (g.owner = .client n) :=
        State.ownedBy_of_some (by rw [he]; exact hg) _
      rw [howned, decide_eq_false ho]
      rfl
    · rw [s.depart_shown n k, State.ownedIn_of_some hg, decide_eq_false (fun h => ho h.1)]
      exact Bool.and_true _
  mask := rfl

end State.OthersKept

/-- The region of a client's tag is its own. -/
theorem State.TableFacts.own_of_tag {s : State} (hs : s.TableFacts) {x : Session} {tag : Word16} {k : Slot} {r : Region}
    (h : s.regionByTag x tag = .ok (k, r)) : ∀ g, s.table[k] = some g → g.owner = x := by
  obtain ⟨hr, howner, -⟩ := hs.region_of_tag h
  intro g hg
  obtain rfl := Option.some.inj (hr.symm.trans hg)
  exact howner

/-- The region of a slot in a map is the map's session's own. -/
theorem State.TableFacts.own_of_entry {s : State} (hs : s.TableFacts) {x : Session} {e : TagEntry} {k : Slot}
    (he : e ∈ s.tagMaps.get x) (hk : e.slot = some k) : ∀ g, s.table[k] = some g → g.owner = x := by
  obtain ⟨r, hr, howner, -⟩ := hs.names x e he k hk
  intro g hg
  obtain rfl := Option.some.inj (hr.symm.trans hg)
  exact howner

theorem RuleEffect.othersKept {n : Client} {s t : State} (h : RuleEffect (.client n) s t) (hs : s.TableFacts) :
    s.OthersKept n t := by
  generalize hx : (Session.client n : Port) = x at h
  induction h with
  | none s => exact .refl s
  | trans h h' ih ih' => exact (ih hs).trans (ih' (h.tableFacts hs))
  | alert s a hmask =>
    exact
      { sessions := fun _ _ => rfl
        tagMaps := fun _ _ => rfl
        regions := fun _ _ hg _ => ⟨hg, rfl, rfl⟩
        mask := hmask (hx ▸ nofun) }
  | attach hp hst =>
    obtain rfl := Session.client.inj (hx.trans hp)
    exact .mapSession _ _
  | depart hp hst =>
    obtain hp | hp := hp
    · obtain rfl := Session.client.inj (hx.trans hp)
      exact .depart _
    · cases hx.trans hp
  | opened hp hst hvalid htag hquota hrect hclaim hroom hfree =>
    obtain rfl := Session.client.inj (hx.trans hp)
    exact .createRegion hfree _ _ _
  | amended hf hst hregion hlive hvalid hrect hclaim hroom =>
    subst hx
    exact .stageAmend (hs.own_of_tag hregion) _
  | renewed hp he hk hr hlive =>
    subst hx
    exact .putRegion (hs.own_of_entry he hk) _
  | revived hp he hk hr hlapsed hentry hroom =>
    subst hx
    exact .stage (hs.own_of_entry he hk)
  | freed hregion hst =>
    subst hx
    exact .freeStaged (hs.own_of_tag hregion)
  | removal hkind hsession hregion hst hroom =>
    subst hx
    exact .stageRemoval hs (hs.own_of_tag hregion) _ _ hroom
  | fetched s =>
    subst hx
    exact .mapTags _ _
  | cursor c hst =>
    subst hx
    exact .mapSession _ _
  | evictedMark hp hst => cases hx.trans hp
  | limits hp hvalid hst hsum => cases hx.trans hp
  | pending hp hf hst => cases hx.trans hp
  | pinned hp hvalid htag hcount hrect hrank hroom hfree => cases hx.trans hp
  | scan hp hc => cases hx.trans hp
  | forced hp hst => cases hx.trans hp

/-- The scan requests are supervisor-only (R198). -/
theorem movesScan_of_client {n : Client} {c : Call} (h : Permitted (.client n) c) : movesScan c = false := by
  have hkind : supervisorOnly c.kind = false := h.resolve_right nofun
  cases c <;> first | rfl | cases hkind

/-- Settles O54: the effects of a client's requests touch its own things, and its rules leave the scan side alone. -/
theorem clientRequestsTouchOnlyTheirOwn : Obligations.ClientRequestsTouchOnlyTheirOwn := by
  intro c n r s t hagrees hc h
  have hs : s.TableFacts := State.tableAgrees_iff.mp hagrees
  have hkept : s.OthersKept n t ∧ t.scanSide = s.scanSide := by
    rcases exec_request_cases hc h with rfl | ⟨-, rfl⟩
    · exact ⟨.refl _, rfl⟩
    · have hd : (s.dequeue (.client n)).TableFacts := hs.of_eq rfl rfl rfl rfl rfl
      by_cases hp : Permitted (.client n) r.call
      · rw [requestOutcome_of_permitted hp]
        obtain ⟨hsessions, htags, hregions, hmask⟩ := (requestRule_effect hp (s.dequeue (.client n))).othersKept hd
        exact ⟨⟨hsessions, htags, hregions, hmask⟩,
          (requestRule_scanSide _ r.call (movesScan_of_client hp) (s.dequeue (.client n))).1⟩
      · rw [requestOutcome_of_not_permitted hp]
        exact ⟨⟨fun _ _ => rfl, fun _ _ => rfl, fun _ _ hg _ => ⟨hg, rfl, rfl⟩, rfl⟩, rfl⟩
  obtain ⟨hkept, hside⟩ := hkept
  exact ⟨fun x hx => ⟨hkept.sessions x hx, hkept.tagMaps x hx⟩, fun k g hg ho => hkept.regions k g hg ho,
    congrArg (·.1) hside, congrArg (·.2.1) hside, congrArg (·.2.2.1) hside, hkept.mask⟩

end Sys2Proof.Machine
end

section
/-! PROOFS. Every step keeps each port within its capacities (O56). -/

namespace Sys2Proof.Machine

set_option Elab.async false

/-- The bounds of one port. -/
def PortState.Bounded (q : PortState) : Prop :=
  q.buffer.length ≤ 4 ∧ q.responses.length ≤ 4 ∧ q.readsHead = true ∧ q.midMessage = true

theorem State.portsBounded_iff {s : State} : s.PortsBounded ↔ ∀ p, (s.ports.get p).Bounded := forSessions_iff

/-! ### One port -/

/-- A transaction state fits a queue of responses: a read sends its head, and a message is not yet whole. -/
def Transaction.Fits (t : Transaction) (responses : List Response) : Prop :=
  match t with
  | .sending r true => responses.head? = some r
  | .header l => l.length < 3
  | .body k _ l => l.length < k.bodyLength
  | _ => True

theorem PortState.bounded_iff (q : PortState) :
    q.Bounded ↔ q.buffer.length ≤ 4 ∧ q.responses.length ≤ 4 ∧ q.transaction.Fits q.responses := by
  unfold PortState.Bounded PortState.readsHead PortState.midMessage Transaction.Fits
  cases q.transaction with
  | sending r queued => cases queued <;> simp
  | _ => simp

theorem PortState.Bounded.withTransaction {q : PortState} (hq : q.Bounded) {t : Transaction} (ht : t.Fits q.responses) :
    ({ q with transaction := t } : PortState).Bounded := by
  obtain ⟨hbuffer, hresponses, -⟩ := q.bounded_iff.mp hq
  exact (PortState.bounded_iff _).mpr ⟨hbuffer, hresponses, ht⟩

/-- A request decided joins the buffer where there is room (R190). -/
theorem PortState.Bounded.decideRequest {q : PortState} (hq : q.Bounded) (r : Request) : (q.decideRequest r).Bounded := by
  obtain ⟨hbuffer, hresponses, -⟩ := q.bounded_iff.mp hq
  unfold PortState.decideRequest
  split
  · next hroom =>
    refine (PortState.bounded_iff _).mpr ⟨?_, hresponses, trivial⟩
    have : q.buffer.length < 4 := hroom
    simpa using this
  · exact hq.withTransaction trivial

theorem PortState.Bounded.receiveBody {q : PortState} (hq : q.Bounded) (k : Kind) (seq : Byte) (l : List Byte) :
    (q.receiveBody k seq l).Bounded := by
  unfold PortState.receiveBody
  split
  · exact hq.decideRequest _
  · split
    · next hlength => exact hq.withTransaction hlength
    · exact hq

/-- The oldest request leaves the buffer. -/
theorem PortState.Bounded.dequeue {q : PortState} (hq : q.Bounded) :
    ({ q with buffer := q.buffer.tail } : PortState).Bounded := by
  obtain ⟨hbuffer, hresponses, hfits⟩ := q.bounded_iff.mp hq
  refine (PortState.bounded_iff _).mpr ⟨?_, hresponses, hfits⟩
  simp only [List.length_tail]
  omega

theorem Transaction.Fits.append {t : Transaction} {l : List Response} (h : t.Fits l) (r : Response) : t.Fits (l ++ [r]) := by
  cases t with
  | sending z queued =>
    cases queued with
    | false => trivial
    | true =>
      replace h : l.head? = some z := h
      show (l ++ [r]).head? = some z
      rw [List.head?_append, h]
      rfl
  | header l => exact h
  | body k q l => exact h
  | _ => trivial

/-- A response joins the end of a queue with room: a read goes on from its head. -/
theorem PortState.Bounded.answer {q : PortState} (hq : q.Bounded) (hroom : q.responses.length < 4) (r : Response) :
    ({ q with responses := q.responses ++ [r] } : PortState).Bounded := by
  obtain ⟨hbuffer, -, hfits⟩ := q.bounded_iff.mp hq
  exact (PortState.bounded_iff _).mpr ⟨hbuffer, by simpa using hroom, hfits.append r⟩

/-- A response sent leaves the head of the queue (R194). -/
theorem PortState.Bounded.finish {q : PortState} (hq : q.Bounded) (queued : Bool) :
    ({ q with responses := if queued then q.responses.tail else q.responses, transaction := .ignoring } : PortState).Bounded := by
  obtain ⟨hbuffer, hresponses, -⟩ := q.bounded_iff.mp hq
  refine (PortState.bounded_iff _).mpr ⟨hbuffer, ?_, trivial⟩
  cases queued
  · exact hresponses
  · simp only [if_true, List.length_tail]
    omega

/-- A detached read sends no queued response (R194). -/
theorem Transaction.Fits.detach {t : Transaction} {l : List Response} (h : t.Fits l) (l' : List Response) : t.detach.Fits l' := by
  cases t with
  | sending r queued => trivial
  | header l => exact h
  | body k q l => exact h
  | _ => trivial

theorem PortState.Bounded.softReset {q : PortState} (hq : q.Bounded) (p : Port) :
    (softResetPort p q).Bounded ∧ (softResetPort p q).responses = [] := by
  obtain ⟨hbuffer, -, hfits⟩ := q.bounded_iff.mp hq
  cases p with
  | sup => exact ⟨(PortState.bounded_iff _).mpr ⟨hbuffer, Nat.zero_le _, hfits.detach _⟩, rfl⟩
  | client n => exact ⟨(PortState.bounded_iff _).mpr ⟨Nat.zero_le _, Nat.zero_le _, hfits.detach _⟩, rfl⟩

theorem resetPort_bounded (q : PortState) : (resetPort q).Bounded := by
  refine (PortState.bounded_iff _).mpr ⟨Nat.zero_le _, Nat.zero_le _, ?_⟩
  unfold resetPort
  dsimp only
  split <;> trivial

theorem readEntry_fits (l : List Response) : (readEntry l).Fits l := by
  cases l with
  | nil => trivial
  | cons r l => rfl

/-! ### All ports -/

/-- Every port is within its bounds. -/
def State.Bounded (s : State) : Prop := ∀ p, (s.ports.get p).Bounded

theorem State.Bounded.mapPort {s : State} (hs : s.Bounded) {p : Port} {f : PortState → PortState}
    (hf : (f (s.ports.get p)).Bounded) : (s.mapPort p f).Bounded := by
  intro x
  show ((s.ports.set p (f (s.ports.get p))).get x).Bounded
  rw [PerSession.get_set]
  split
  · exact hf
  · exact hs x

theorem State.Bounded.setTransaction {s : State} (hs : s.Bounded) {p : Port} {t : Transaction}
    (ht : t.Fits (s.ports.get p).responses) : (s.setTransaction p t).Bounded := hs.mapPort ((hs p).withTransaction ht)

theorem State.Bounded.of_ports {s t : State} (hs : s.Bounded) (h : t.ports = s.ports) : t.Bounded := by
  intro p
  rw [h]
  exact hs p

/-! ### What happens at a port (R188 to R194) -/

section
variable {s : State} (hs : s.Bounded) (p : Port)
include hs

theorem State.Bounded.selectFall : (s.selectFall p).Bounded := by
  unfold State.selectFall
  split
  · refine hs.setTransaction ?_
    split <;> trivial
  all_goals exact hs

theorem State.Bounded.writeCommand : (s.writeCommand p).Bounded := by
  unfold State.writeCommand
  split
  · exact hs.setTransaction (by decide : ([] : List Byte).length < 3)
  · exact hs

theorem State.Bounded.readCommand : (s.readCommand p).Bounded := by
  unfold State.readCommand
  split
  · exact hs.setTransaction (readEntry_fits _)
  · exact hs

theorem State.Bounded.badCommand : (s.badCommand p).Bounded := by
  unfold State.badCommand
  split
  · exact hs.setTransaction trivial
  · exact hs

theorem State.Bounded.checkHeader (kind seq length : Byte) : (s.checkHeader p kind seq length).Bounded := by
  unfold State.checkHeader
  split
  · split
    · unfold State.endHeader
      split
      · exact hs.mapPort ((hs p).receiveBody _ _ _)
      · exact hs.setTransaction trivial
    · exact hs
  · exact hs

theorem State.Bounded.receiveBytes (l : List Byte) : (s.receiveBytes p l).Bounded := by
  unfold State.receiveBytes
  split
  · split
    · next hlength => exact hs.setTransaction hlength
    · exact hs
  · exact hs.mapPort ((hs p).receiveBody _ _ _)
  · exact hs

theorem State.Bounded.finishResponse : (s.finishResponse p).Bounded := by
  unfold State.finishResponse
  split
  · exact hs.mapPort ((hs p).finish _)
  · exact hs

theorem State.Bounded.statusSent : (s.statusSent p).Bounded := by
  unfold State.statusSent
  split
  · exact hs.setTransaction trivial
  · exact hs

end

theorem State.Bounded.portEvent {c : Instr} {s t : State} (hs : s.Bounded) (hc : isPortEvent c = true)
    (h : exec c s = .next t) : t.Bounded := by
  cases c <;> try cases hc
  all_goals obtain rfl := Host.Outcome.next.inj h
  case selectFall p => exact hs.selectFall p
  case writeCommand p => exact hs.writeCommand p
  case readCommand p => exact hs.readCommand p
  case badCommandByte p b => split <;> [exact hs; exact hs.badCommand p]
  case headerFramingCheck p k q n => exact hs.checkHeader p k q n
  case requestDecision p l => exact hs.receiveBytes p l
  case responseSent p => exact hs.finishResponse p
  case selectRise p => exact hs.setTransaction trivial
  case statusByteSent p => exact hs.statusSent p

/-! ### The other events leave the ports alone -/

@[simp] theorem State.takeCommit_ports (s : State) : s.takeCommit.ports = s.ports :=
  congrArg (·.2.2.1) s.takeCommit_outsideCommit

theorem State.takeVblank_ports (s : State) : s.takeVblank.ports = s.ports := by
  unfold State.takeVblank
  split
  · rfl
  · exact State.raiseIf_ports _ _ _

theorem State.takeFstart_ports (s : State) : s.takeFstart.ports = s.ports := by
  unfold State.takeFstart
  split
  · rfl
  · split
    · rfl
    · have hports : s.settled.passed.ports = s.ports := State.takeCommits_view State.ports State.takeCommit_ports _ s
      show s.settled.passed.swap.ports = s.ports
      unfold State.swap
      split
      · simpa only [State.install, State.raiseIf_ports] using hports
      · exact hports
      · exact hports

theorem State.query_ports (s : State) (code : Byte) (form : State → Answer) : (s.query code form).ports = s.ports := by
  unfold State.query
  split
  · rfl
  · split <;> rfl

/-! ### Requests -/

/-- The port of the request chosen has room for its response (R196). -/
theorem State.room_of_choice {s : State} {p : Port} {r : Request} (h : s.choice = some (p, r)) :
    (s.ports.get p).responses.length < 4 := by
  obtain ⟨hdue, hlow⟩ := State.choice_admits h
  have hport : s.chosenPort = some p := by
    unfold State.choice at h
    split at h
    · cases h
    · next x hx =>
      obtain ⟨y, -, hy⟩ := Option.map_eq_some_iff.mp h
      rw [hx, (Prod.mk.inj hy).1]
  rw [State.chosenPort_of_admitted hlow hdue] at hport
  split at hport
  · next hsup =>
    obtain rfl := Option.some.inj hport
    exact hsup.2
  · obtain ⟨n, hn, rfl⟩ := Option.map_eq_some_iff.mp hport
    have helig : decide (s.Eligible (.client n)) = true := List.find?_some (p := fun m => decide (s.Eligible (.client m))) hn
    exact (of_decide_eq_true helig).2

theorem State.Bounded.dequeue {s : State} (hs : s.Bounded) (p : Port) : (s.dequeue p).Bounded := by
  refine State.Bounded.of_ports (hs.mapPort (f := fun q => { q with buffer := q.buffer.tail }) (hs p).dequeue) ?_
  cases p <;> rfl

theorem State.dequeue_responses (s : State) (p x : Port) :
    ((s.dequeue p).ports.get x).responses = (s.ports.get x).responses := by
  have h : (s.dequeue p).ports = s.ports.set p { s.ports.get p with buffer := (s.ports.get p).buffer.tail } := by
    cases p <;> rfl
  rw [h, PerSession.get_set]
  split
  · next hx => rw [hx]
  · rfl

/-- A rule leaves the ports as they are, or SOFT_RESET empties every queue. -/
theorem State.Bounded.rule {s : State} (hs : s.Bounded) (p : Port) (c : Call) :
    (requestRule p c s).1.Bounded
      ∧ ∀ x, ((requestRule p c s).1.ports.get x).responses = (s.ports.get x).responses
          ∨ ((requestRule p c s).1.ports.get x).responses = [] := by
  by_cases hc : c = .softReset
  · subst hc
    show s.softReset.Bounded ∧ ∀ x, (s.softReset.ports.get x).responses = _ ∨ (s.softReset.ports.get x).responses = []
    refine ⟨fun x => ?_, fun x => .inr ?_⟩
    · rw [State.softReset_ports]
      exact ((hs x).softReset x).1
    · rw [State.softReset_ports]
      exact ((hs x).softReset x).2
  · have hports := (requestRule_portFree p c hc).ports s
    exact ⟨hs.of_ports hports, fun x => .inl (by rw [hports])⟩

theorem State.Bounded.request {c : Instr} {p : Port} {r : Request} {s t : State} (hs : s.Bounded)
    (hc : c.request = some (p, r)) (h : exec c s = .next t) : t.Bounded := by
  rcases exec_request_cases hc h with rfl | ⟨hchoice, rfl⟩
  · exact hs
  · have hroom : ((s.dequeue p).ports.get p).responses.length < 4 := by
      rw [State.dequeue_responses]
      exact State.room_of_choice hchoice
    by_cases hp : Permitted p r.call
    · rw [requestOutcome_of_permitted hp]
      obtain ⟨hrule, hresponses⟩ := (hs.dequeue p).rule p r.call
      refine hrule.mapPort ((hrule p).answer ?_ _)
      rcases hresponses p with hsame | hempty
      · rwa [hsame]
      · rw [hempty]
        exact Nat.zero_lt_succ _
    · rw [requestOutcome_of_not_permitted hp]
      exact (hs.dequeue p).mapPort (((hs.dequeue p) p).answer hroom _)

theorem State.Bounded.exec {c : Instr} {s t : State} (hs : s.Bounded) (h : exec c s = .next t) : t.Bounded := by
  cases hc : c.request with
  | some z => exact hs.request hc h
  | none =>
    cases exec_event hc h with
    | none => exact hs
    | vblank => exact hs.of_ports s.takeVblank_ports
    | fstart => exact hs.of_ports s.takeFstart_ports
    | reset => exact fun p => State.heldInReset_ports s p ▸ resetPort_bounded _
    | released => exact hs.of_ports rfl
    | commit => exact hs.of_ports s.takeCommit_ports
    | completed => exact hs.of_ports rfl
    | query hc form => exact hs.of_ports (s.query_ports _ form)
    | answerSent => exact hs.of_ports rfl
    | port hc h => exact hs.portEvent hc h

/-- Settles O56: what happens at a port keeps it within its bounds, and the rest leaves the ports alone. -/
theorem stepKeepsPortsBounded : Obligations.StepKeepsPortsBounded := by
  intro s t hs h
  refine State.portsBounded_iff.mpr ?_
  have hbounded : s.Bounded := State.portsBounded_iff.mp hs
  unfold Machine.step at h
  split at h
  · exact Host.Outcome.next.inj h ▸ hbounded
  · next rest _ =>
    have hrest : ({ s with pending := rest } : State).Bounded := hbounded.of_ports rfl
    exact hrest.exec h

end Sys2Proof.Machine
end

section
/-! PROOFS. The request kind table and the body layouts, read and written (O49). -/

namespace Sys2Proof.Machine

set_option Elab.async false

/-! ### Fields of two and three bytes -/

theorem word16Bytes_word16Of (hi lo : Byte) : word16Bytes (word16Of hi lo) = [hi, lo] := by
  have h := word16Of_toNat hi lo
  have hhi := hi.isLt
  have hlo := lo.isLt
  simp only [word16Bytes, List.cons.injEq, and_true]
  constructor <;> apply BitVec.eq_of_toNat_eq <;>
    simp only [BitVec.extractLsb'_toNat, h, Nat.shiftRight_eq_div_pow] <;> omega

theorem colourOf_toNat (r g b : Byte) : (colourOf r g b).toNat = 65536 * r.toNat + 256 * g.toNat + b.toNat := by
  have h : (colourOf r g b).toNat = (word16Of r g).toNat <<< 8 ||| b.toNat := BitVec.toNat_append (word16Of r g) b
  rw [h, ← Nat.shiftLeft_add_eq_or_of_lt b.isLt, Nat.shiftLeft_eq, word16Of_toNat]
  omega

theorem colourBytes_colourOf (r g b : Byte) : colourBytes (colourOf r g b) = [r, g, b] := by
  have h := colourOf_toNat r g b
  have hr := r.isLt
  have hg := g.isLt
  have hb := b.isLt
  simp only [colourBytes, List.cons.injEq, and_true]
  refine ⟨?_, ?_, ?_⟩ <;> apply BitVec.eq_of_toNat_eq <;>
    simp only [BitVec.extractLsb'_toNat, h, Nat.shiftRight_eq_div_pow] <;> omega

theorem colourOf_bytes (c : Colour) : colourOf (c.extractLsb' 16 8) (c.extractLsb' 8 8) (c.extractLsb' 0 8) = c := by
  apply BitVec.eq_of_toNat_eq
  simp only [colourOf_toNat, BitVec.extractLsb'_toNat, Nat.shiftRight_eq_div_pow]
  omega

/-! ### Layouts -/

/-- Reading and writing of a layout of a length agree. -/
structure Layout {α : Type} (read : List Byte → Option α) (write : α → List Byte) (length : Nat) : Prop where
  read_write : ∀ a, read (write a) = some a
  write_read : ∀ {l a}, read l = some a → write a = l
  read_none : ∀ l, read l = none ↔ l.length ≠ length

theorem layout_block : Layout blockOfBytes blockBytes 23 where
  read_write b := by
    simp only [blockBytes, word16Bytes, colourBytes, List.cons_append, List.nil_append, blockOfBytes, word16Of_bytes,
      colourOf_bytes]
  write_read := by
    intro l b h
    unfold blockOfBytes at h
    split at h
    · cases h
      simp only [blockBytes, word16Bytes_word16Of, colourBytes_colourOf, List.cons_append, List.nil_append]
    · cases h
  read_none l := by
    constructor
    · intro h hl
      match l, hl with
      | [_, _, _, _, _, _, _, _, _, _, _, _, _, _, _, _, _, _, _, _, _, _, _], _ => cases h
    · intro h
      unfold blockOfBytes
      split
      · exact absurd rfl h
      · rfl

theorem layout_tag : Layout tagOfBytes word16Bytes 2 where
  read_write t := congrArg some (word16Of_bytes t)
  write_read := by
    intro l t h
    unfold tagOfBytes at h
    split at h
    · cases h
      exact word16Bytes_word16Of _ _
    · cases h
  read_none l := by
    unfold tagOfBytes
    split
    · simp
    · next hne => exact ⟨fun _ hl => by obtain ⟨a, b, rfl⟩ := List.length_eq_two.mp hl; exact hne a b rfl, fun _ => rfl⟩

theorem layout_byte : Layout byteOfBytes (fun b => [b]) 1 where
  read_write b := rfl
  write_read := by
    intro l b h
    unfold byteOfBytes at h
    split at h
    · cases h; rfl
    · cases h
  read_none l := by
    unfold byteOfBytes
    split
    · simp
    · next hne => exact ⟨fun _ hl => by obtain ⟨a, rfl⟩ := List.length_eq_one_iff.mp hl; exact hne a rfl, fun _ => rfl⟩

/-! ### The kind table -/

theorem kindOfCode_code (k : Kind) : kindOfCode k.code = some k := by cases k <;> rfl

theorem code_of_kindOfCode {b : Byte} {k : Kind} (h : kindOfCode b = some k) : k.code = b := by
  simpa using List.find?_some h

/-- What the bytes of a body say of the request they spell. -/
structure BodyLayout (k : Kind) : Prop where
  spelled : ∀ {l c}, callOfBytes k l = some c → c.kind = k ∧ c.bytes = l
  none : ∀ l, callOfBytes k l = none ↔ l.length ≠ k.bodyLength

/-- The layout of a kind with one field. -/
theorem Layout.body {α : Type} {read : List Byte → Option α} {write : α → List Byte} {n : Nat} (h : Layout read write n)
    {k : Kind} (make : α → Call) (hread : ∀ l, callOfBytes k l = (read l).map make)
    (hmake : ∀ a, (make a).kind = k ∧ (make a).bytes = write a) (hlength : k.bodyLength = n) : BodyLayout k where
  spelled := by
    intro l c hc
    rw [hread] at hc
    obtain ⟨a, ha, rfl⟩ := Option.map_eq_some_iff.mp hc
    exact ⟨(hmake a).1, (hmake a).2.trans (h.write_read ha)⟩
  none l := by rw [hread, Option.map_eq_none_iff, hlength, h.read_none]

/-- The layout of a kind without a body. -/
theorem bodyLayout_empty {k : Kind} (c : Call) (hread : ∀ l, callOfBytes k l = emptyBody c l)
    (hmake : c.kind = k ∧ c.bytes = []) (hlength : k.bodyLength = 0) : BodyLayout k where
  spelled := by
    intro l d hd
    rw [hread] at hd
    cases l with
    | nil => cases hd; exact hmake
    | cons a l => cases hd
  none l := by
    rw [hread, hlength]
    cases l <;> simp [emptyBody]

theorem bodyLayout_probe : BodyLayout .probe where
  spelled := by
    intro l c h
    simp only [callOfBytes, probeOfBytes] at h
    split at h
    · cases h
      exact ⟨rfl, by simp only [Call.bytes, word16Bytes_word16Of, List.cons_append, List.nil_append]⟩
    · cases h
  none l := by
    simp only [callOfBytes, probeOfBytes]
    split
    · simp [Kind.bodyLength]
    · next hne =>
      exact ⟨fun _ hl => by match l, hl with | [a, b, c, d], _ => exact hne a b c d rfl, fun _ => rfl⟩

theorem bodyLayout_setLimits : BodyLayout .setLimits where
  spelled := by
    intro l c h
    simp only [callOfBytes, limitsOfBytes] at h
    split at h
    · cases h
      exact ⟨rfl, rfl⟩
    · cases h
  none l := by
    simp only [callOfBytes, limitsOfBytes]
    split
    · simp [Kind.bodyLength]
    · next hne =>
      exact ⟨fun _ hl => by match l, hl with | [a, b, c, d], _ => exact hne a b c d rfl, fun _ => rfl⟩

theorem bodyLayout_configure : BodyLayout .configure where
  spelled := by
    intro l c h
    simp only [callOfBytes, configureOfBytes] at h
    split at h
    · cases h
      refine ⟨rfl, ?_⟩
      simp only [Call.bytes, word16Bytes_word16Of, colourBytes_colourOf, List.cons_append, List.nil_append]
    · cases h
  none l := by
    simp only [callOfBytes, configureOfBytes]
    split
    · simp [Kind.bodyLength]
    · next hne =>
      exact ⟨fun _ hl => by
        match l, hl with | [a, b, c, d, e, f, g, i], _ => exact hne a b c d e f g i rfl, fun _ => rfl⟩

theorem bodyLayout (k : Kind) : BodyLayout k := by
  cases k with
  | openRegion => exact layout_block.body .openRegion (fun _ => rfl) (fun _ => ⟨rfl, rfl⟩) rfl
  | amend => exact layout_block.body .amend (fun _ => rfl) (fun _ => ⟨rfl, rfl⟩) rfl
  | pin => exact layout_block.body .pin (fun _ => rfl) (fun _ => ⟨rfl, rfl⟩) rfl
  | renew => exact layout_tag.body .renew (fun _ => rfl) (fun _ => ⟨rfl, rfl⟩) rfl
  | release => exact layout_tag.body .release (fun _ => rfl) (fun _ => ⟨rfl, rfl⟩) rfl
  | lookup => exact layout_tag.body .lookup (fun _ => rfl) (fun _ => ⟨rfl, rfl⟩) rfl
  | unpin => exact layout_tag.body .unpin (fun _ => rfl) (fun _ => ⟨rfl, rfl⟩) rfl
  | walkStart => exact layout_byte.body .walkStart (fun _ => rfl) (fun _ => ⟨rfl, rfl⟩) rfl
  | lookupSlot => exact layout_byte.body .lookupSlot (fun _ => rfl) (fun _ => ⟨rfl, rfl⟩) rfl
  | suspend => exact layout_byte.body .suspend (fun _ => rfl) (fun _ => ⟨rfl, rfl⟩) rfl
  | resume => exact layout_byte.body .resume (fun _ => rfl) (fun _ => ⟨rfl, rfl⟩) rfl
  | evict => exact layout_byte.body .evict (fun _ => rfl) (fun _ => ⟨rfl, rfl⟩) rfl
  | setAlertMask => exact layout_byte.body .setAlertMask (fun _ => rfl) (fun _ => ⟨rfl, rfl⟩) rfl
  | probe => exact bodyLayout_probe
  | setLimits => exact bodyLayout_setLimits
  | configure => exact bodyLayout_configure
  | attach => exact bodyLayout_empty .attach (fun _ => rfl) ⟨rfl, rfl⟩ rfl
  | detach => exact bodyLayout_empty .detach (fun _ => rfl) ⟨rfl, rfl⟩ rfl
  | walkNext => exact bodyLayout_empty .walkNext (fun _ => rfl) ⟨rfl, rfl⟩ rfl
  | fetchNotices => exact bodyLayout_empty .fetchNotices (fun _ => rfl) ⟨rfl, rfl⟩ rfl
  | start => exact bodyLayout_empty .start (fun _ => rfl) ⟨rfl, rfl⟩ rfl
  | hold => exact bodyLayout_empty .hold (fun _ => rfl) ⟨rfl, rfl⟩ rfl
  | resumeScan => exact bodyLayout_empty .resumeScan (fun _ => rfl) ⟨rfl, rfl⟩ rfl
  | stop => exact bodyLayout_empty .stop (fun _ => rfl) ⟨rfl, rfl⟩ rfl
  | forceCommit => exact bodyLayout_empty .forceCommit (fun _ => rfl) ⟨rfl, rfl⟩ rfl
  | clearTable => exact bodyLayout_empty .clearTable (fun _ => rfl) ⟨rfl, rfl⟩ rfl
  | softReset => exact bodyLayout_empty .softReset (fun _ => rfl) ⟨rfl, rfl⟩ rfl
  | readStatus => exact bodyLayout_empty .readStatus (fun _ => rfl) ⟨rfl, rfl⟩ rfl
  | fetchAlerts => exact bodyLayout_empty .fetchAlerts (fun _ => rfl) ⟨rfl, rfl⟩ rfl

/-- A request's body spells it again. -/
theorem callOfBytes_bytes (c : Call) : callOfBytes c.kind c.bytes = some c := by
  cases c with
  | openRegion b => exact congrArg (Option.map Call.openRegion) (layout_block.read_write b)
  | amend b => exact congrArg (Option.map Call.amend) (layout_block.read_write b)
  | pin b => exact congrArg (Option.map Call.pin) (layout_block.read_write b)
  | renew t => exact congrArg (Option.map Call.renew) (layout_tag.read_write t)
  | release t => exact congrArg (Option.map Call.release) (layout_tag.read_write t)
  | lookup t => exact congrArg (Option.map Call.lookup) (layout_tag.read_write t)
  | unpin t => exact congrArg (Option.map Call.unpin) (layout_tag.read_write t)
  | probe x y =>
    show some (Call.probe (word16Of _ _) (word16Of _ _)) = _
    rw [word16Of_bytes, word16Of_bytes]
  | configure w h b g =>
    show some (Call.configure (word16Of _ _) (word16Of _ _) (colourOf _ _ _) g) = _
    rw [word16Of_bytes, word16Of_bytes, colourOf_bytes]
  | _ => rfl

theorem length_callBytes (c : Call) : c.bytes.length = c.kind.bodyLength := by
  by_contra h
  have hnone := ((bodyLayout c.kind).none c.bytes).mpr h
  rw [callOfBytes_bytes] at hnone
  cases hnone

theorem blockBytes_eq (b : FieldBlock) : blockBytes b = blockAsSent b := by
  simp only [blockBytes, blockAsSent, word16Bytes_eq, colourBytes_eq]

/-- Settles O49: the table by its rows, and each layout read and written. -/
theorem requestBytesRoundTrip : Obligations.RequestBytesRoundTrip := by
  refine ⟨fun c => ⟨kindOfCode_code _, length_callBytes c, callOfBytes_bytes c⟩, fun k l c h => (bodyLayout k).spelled h,
    fun k l => (bodyLayout k).none l, fun b k h => code_of_kindOfCode h, by decide, ?_⟩
  intro b t x y w h v n l m bg
  refine ⟨?_, ?_, ?_, ?_, rfl, ?_⟩
  · simpa only [List.forall_mem_cons, List.not_mem_nil, false_imp_iff, implies_true, and_true, Call.bytes, and_self]
      using blockBytes_eq b
  · simpa only [List.forall_mem_cons, List.not_mem_nil, false_imp_iff, implies_true, and_true, Call.bytes, and_self]
      using word16Bytes_eq t
  · simp only [List.forall_mem_cons, List.not_mem_nil, false_imp_iff, implies_true, Call.bytes, and_self]
  · simp only [Call.bytes, word16Bytes_eq]
  · simp only [Call.bytes, word16Bytes_eq, colourBytes_eq]

end Sys2Proof.Machine
end

section
/-! PROOFS. Requests written to a port, framing errors and reads (O48, O50). -/

namespace Sys2Proof.Machine

set_option Elab.async false

/-! ### The bytes of a request, written in pieces (R188 to R191) -/

theorem bodyLength_lt (k : Kind) : k.bodyLength < 256 := by cases k <;> decide

/-- The header of a request passes the framing checks (R191). -/
theorem headerKind_of_kind (k : Kind) : headerKind k.code (BitVec.ofNat 8 k.bodyLength) = some k := by
  have hlength : (BitVec.ofNat 8 k.bodyLength).toNat = k.bodyLength :=
    (BitVec.toNat_ofNat _ _).trans (Nat.mod_eq_of_lt (bodyLength_lt k))
  simp only [headerKind, kindOfCode_code, Option.filter, hlength, decide_true, if_true]

/-- The body of a request, all there, is decided (R190). -/
theorem PortState.receiveBody_of_whole (q : PortState) (r : Request) :
    q.receiveBody r.call.kind r.seq r.call.bytes = q.decideRequest r := by
  simp only [PortState.receiveBody, callOfBytes_bytes]

/-- A body short of its last byte is held (R188). -/
theorem PortState.receiveBody_of_short (q : PortState) {k : Kind} (seq : Byte) {l : List Byte} (h : l.length < k.bodyLength) :
    q.receiveBody k seq l = { q with transaction := .body k seq l } := by
  have hnone : callOfBytes k l = none := ((bodyLayout k).none l).mpr (Nat.ne_of_lt h)
  simp only [PortState.receiveBody, hnone, h, if_true]

theorem PortState.decideRequest_eq (q : PortState) (r : Request) :
    q.decideRequest r =
      if q.buffer.length < 4 then { q with buffer := q.buffer ++ [r], transaction := .status .accepted }
      else { q with transaction := .status .full } := rfl

/-- The state with another port. -/
def State.withPort (s : State) (p : Port) (q : PortState) : State := { s with ports := s.ports.set p q }

theorem State.withPort_mapPort (s : State) (p : Port) (q : PortState) (f : PortState → PortState) :
    (s.withPort p q).mapPort p f = s.withPort p (f q) := by
  simp only [State.withPort, State.mapPort, PerSession.get_set_self, PerSession.set_set]

theorem State.withPort_setTransaction (s : State) (p : Port) (q : PortState) (t : Transaction) :
    (s.withPort p q).setTransaction p t = s.withPort p { q with transaction := t } := s.withPort_mapPort p q _

theorem State.withPort_transactionOf (s : State) (p : Port) (q : PortState) :
    (s.withPort p q).transactionOf p = q.transaction := by
  simp only [State.withPort, State.transactionOf, PerSession.get_set_self]

section
variable {s : State} (hlow : s.resetLow = false) (p : Port) (q : PortState)
include hlow

/-- In HEADER, the bytes before the third are held (R188). -/
theorem receiveBytes_of_header {h m : List Byte} (hq : q.transaction = .header h) (hshort : (h ++ m).length < 3) :
    (s.withPort p q).receiveBytes p m = s.withPort p { q with transaction := .header (h ++ m) } := by
  have hlow' : (s.withPort p q).resetLow = false := hlow
  simp only [State.receiveBytes, hlow', s.withPort_transactionOf, hq, hshort, if_true, s.withPort_setTransaction]

/-- In BODY, bytes are received after those held (R190). -/
theorem receiveBytes_of_body {k : Kind} {seq : Byte} {h : List Byte} (hq : q.transaction = .body k seq h) (m : List Byte) :
    (s.withPort p q).receiveBytes p m = s.withPort p (q.receiveBody k seq (h ++ m)) := by
  have hlow' : (s.withPort p q).resetLow = false := hlow
  simp only [State.receiveBytes, hlow', s.withPort_transactionOf, hq, s.withPort_mapPort]

/-- The third header byte, of a header that begins with those held, ends the header (R190). -/
theorem checkHeader_of_header {kind seq length : Byte} {h : List Byte} (hq : q.transaction = .header h)
    (hheld : h <+: [kind, seq, length]) {k : Kind} (hk : headerKind kind length = some k) :
    (s.withPort p q).checkHeader p kind seq length = s.withPort p (q.receiveBody k seq []) := by
  have hlow' : (s.withPort p q).resetLow = false := hlow
  have hprefix : h.isPrefixOf [kind, seq, length] = true := List.isPrefixOf_iff_prefix.mpr hheld
  simp only [State.checkHeader, hlow', s.withPort_transactionOf, hq, hprefix, if_true, State.endHeader, hk,
    s.withPort_mapPort]

end

theorem length_lt_of_append_ne_nil {α : Type} {l m g : List α} (h : l ++ g = m) (hg : g ≠ []) : l.length < m.length := by
  have := List.length_pos_iff.mpr hg
  rw [← h, List.length_append]
  omega

/-- Settles O48: a port holds what it is given until the last byte, and the whole request is decided. -/
theorem writtenRequestReachesTheBuffer : Obligations.WrittenRequestReachesTheBuffer := by
  intro p r s hlow hidle old left during decided
  have hduring (x : Transaction) : during x = s.withPort p { old with transaction := x } := rfl
  have hdecided (x : Transaction) :
      s.withPort p (({ old with transaction := x } : PortState).decideRequest r) = decided := by
    rw [PortState.decideRequest_eq]
    rfl
  have hlength : r.call.bytes.length = r.call.kind.bodyLength := length_callBytes r.call
  refine ⟨BitVec.ofNat 8 r.call.kind.bodyLength, r.call.bytes, by rw [← hlength]; rfl, hlength, ?_, ?_, ?_, ?_⟩
  · refine congrArg Host.Outcome.next ?_
    have ht : s.transactionOf p = .idle := hidle
    simp only [State.selectFall, ht, hlow]
    rfl
  · refine congrArg Host.Outcome.next ?_
    have hlow' : (during .command).resetLow = false := hlow
    have ht : (during .command).transactionOf p = .command := s.withPort_transactionOf p _
    simp only [State.writeCommand, hlow', ht]
    exact s.withPort_setTransaction p _ _
  · intro h m g hcut hg
    constructor
    · exact congrArg Host.Outcome.next
        (receiveBytes_of_header hlow p _ rfl (length_lt_of_append_ne_nil hcut hg))
    · refine congrArg Host.Outcome.next ((checkHeader_of_header hlow p _ rfl ⟨m ++ g, by rw [← hcut, List.append_assoc]⟩
        (headerKind_of_kind _)).trans ?_)
      split
      · next hbody =>
        rw [← hbody, PortState.receiveBody_of_whole]
        exact hdecided _
      · next hbody =>
        rw [PortState.receiveBody_of_short _ _ (by rw [← hlength]; exact List.length_pos_iff.mpr hbody)]
        rfl
  · intro h m g hcut hg
    constructor
    · refine congrArg Host.Outcome.next ((receiveBytes_of_body hlow p _ rfl m).trans ?_)
      rw [PortState.receiveBody_of_short _ _ (by rw [← hlength]; exact length_lt_of_append_ne_nil hcut hg)]
      rfl
    · refine congrArg Host.Outcome.next ((receiveBytes_of_body hlow p _ rfl (m ++ g)).trans ?_)
      rw [← List.append_assoc, hcut, PortState.receiveBody_of_whole]
      exact hdecided _

end Sys2Proof.Machine
end

section
/-! PROOFS. PLAN, LINE and unknown queries at an IDLE interface, and the bytes of the scan link (O45). -/

namespace Sys2Proof.Machine

set_option Elab.async false

/-! ### The answers (R135, R136) -/

theorem State.planAnswer_of_none {s : State} (h : s.front = none) : s.planAnswer = .noPlan planCode := by
  simp [State.planAnswer, h]

theorem State.planAnswer_of_some {s : State} {p : Plan} (h : s.front = some p) :
    s.planAnswer = .plan p.epoch p.status p.bands.length p.width p.height := by
  simp [State.planAnswer, h]

theorem State.lineAnswer_of_none {s : State} (y : Nat) (h : s.front = none) : s.lineAnswer y = .noPlan lineCode := by
  simp [State.lineAnswer, h]

theorem State.lineAnswer_of_some {s : State} {p : Plan} (y : Nat) (h : s.front = some p) :
    s.lineAnswer y = if p.height ≤ y then .range lineCode else p.bandAnswer lineCode (p.bandIndex y) := by
  simp [State.lineAnswer, h]

/-- A tiled plan holds a band at the index of each of its lines. -/
theorem Plan.getElem?_bandIndex {p : Plan} (hp : p.Tiles) {y : Nat} (hy : y < p.height) :
    ∃ b, p.bands[p.bandIndex y]? = some b ∧ b.y0 ≤ y ∧ y < b.y1 := by
  obtain ⟨b, hb, -, hy0, hy1⟩ := Plan.exists_bandAt hp hy
  have hlt : p.bandIndex y < p.bands.length :=
    List.findIdx_lt_length_of_exists ⟨b, hb, by simpa using ⟨hy0, hy1⟩⟩
  refine ⟨p.bands[p.bandIndex y], List.getElem?_eq_getElem hlt, ?_⟩
  have hat : (decide (p.bands[p.bandIndex y].y0 ≤ y) && decide (y < p.bands[p.bandIndex y].y1)) = true :=
    List.findIdx_getElem (xs := p.bands) (p := fun b => decide (b.y0 ≤ y) && decide (y < b.y1))
    (w := by exact hlt)
  simpa only [Bool.and_eq_true, decide_eq_true_iff] using hat

/-! ### The bytes of an answer (R201) -/

theorem Answer.bytes_eq (a : Answer) : a.bytes = a.asSent := by
  cases a with
  | noPlan code => rfl
  | range code => rfl
  | plan epoch status n w h =>
    simp only [Answer.bytes, Answer.asSent, word16Bytes_eq, wordBytes_eq, PlanStatus.code_eq, oneByte, byteOf,
      List.append_assoc, List.cons_append, List.nil_append]
  | band code epoch i b =>
    simp only [Answer.bytes, Answer.asSent, word16Bytes_eq, wordBytes_eq]
    congr 1
    refine List.flatMap_congr (fun sp _ => ?_)
    simp only [Span.bytes, wordBytes_eq, colourBytes_eq, SpanKind.code_eq, ownerByte]
    cases sp.content.owner <;> cases sp.content.slot <;> cases sp.content.stream <;> cases sp.content.colour <;>
      simp [oneByte, byteOf, sessionCode_eq]

theorem Link.bytes_answering (a : Answer) (owed : List Byte) :
    (Link.answering a owed).bytes = a.asSent ++ (owed.map (fun code => [0x82#8, code])).flatten := by
  rw [Link.bytes, Answer.bytes_eq, List.flatMap_def]

/-- Settles O45: the answer each query forms at an IDLE interface, and the bytes of every answer. -/
theorem planLineAndUnknownQueries : Obligations.PlanLineAndUnknownQueries := by
  refine ⟨fun code y s hlow hidle => ?_, rfl, Link.bytes_answering⟩
  intro answered
  have hquery (code : Byte) (form : State → Answer) : s.query code form = answered (form s) :=
    State.query_of_idle code form hlow hidle
  have hline : exec (.lineQuery y) s = .next (answered (s.lineAnswer y.toNat)) :=
    congrArg Host.Outcome.next (hquery lineCode _)
  refine ⟨fun hnone => ?_, fun p hp => ?_, fun hplan hline hband => ?_, fun a l => ?_, fun hnone => ?_, fun p hp =>
      ⟨fun hbeyond => ?_, fun hy htiles => ?_⟩⟩
  · refine congrArg Host.Outcome.next ((hquery planCode _).trans ?_)
    rw [State.planAnswer_of_none hnone]
    rfl
  · refine congrArg Host.Outcome.next ((hquery planCode _).trans ?_)
    rw [State.planAnswer_of_some hp]
  · refine congrArg Host.Outcome.next ((if_neg ?_).trans (hquery code _))
    simp [planCode, lineCode, bandCode, hplan, hline, hband]
  · show Host.Outcome.next { s with link := .idle } = _
    rw [← hidle]
  · rw [hline, State.lineAnswer_of_none _ hnone]
    rfl
  · rw [hline, State.lineAnswer_of_some _ hp, if_pos hbeyond]
    rfl
  · obtain ⟨b, hb, hy0, hy1⟩ := Plan.getElem?_bandIndex htiles hy
    refine ⟨p.bandIndex y.toNat, b, hb, hy0, hy1, ?_⟩
    rw [hline, State.lineAnswer_of_some _ hp, if_neg (Nat.not_le.mpr hy), Plan.bandAnswer_of_some _ hb]
    rfl

end Sys2Proof.Machine
end

section
/-! PROOFS. The bytes of a response's body are those of its fields, at most 64 of them (R199, R200). -/

namespace Sys2Proof.Machine

set_option Elab.async false

/-! ### Codes -/

theorem ResultCode.code_eq (c : ResultCode) :
    c.code = BitVec.ofNat 8 (placeIn
      [.ok, .already, .badRequest, .denied, .notAttached, .suspended, .draining, .notConfigured, .tagInUse, .noSuchTag, .quota,
       .outOfBounds, .layerDenied, .overlap, .stageFull, .lapsed, .retiring, .rankInUse, .pinLimit, .scanState,
       .sessionActive, .limitsConflict, .geometryConflict, .noCursor] c) := by cases c <;> decide

theorem portSetByte_eq (p : PerSession Bool) : portSetByte p = BitVec.ofNat 8 (portsNumber p) := bitsByte_eq _

theorem length_word16Bytes (w : Word16) : (word16Bytes w).length = 2 := rfl

theorem length_wordBytes (n : Nat) : (wordBytes n).length = 2 := rfl

theorem length_colourBytes (c : Colour) : (colourBytes c).length = 3 := rfl

/-! ### Fields that may be absent -/

theorem optionWord_eq (o : Option Word16) : optionWord o = (o.map (fun w => twoBytes w.toNat)).getD (List.replicate 2 0) := by
  cases o with
  | none => rfl
  | some w => exact word16Bytes_eq w

/-- The presence bits of a body's fields. -/
def presenceBits (fs : List BodyField) : List Bool :=
  fs.filterMap (fun f =>
    match f with
    | .stands _ => none
    | .mayStand _ o => some o.isSome)

/-- The bytes of a field, present or absent. -/
def fieldBytes : BodyField → List Byte
  | .stands l => l
  | .mayStand size o => o.getD (List.replicate size 0)

theorem laidOut_eq (fs : List BodyField) :
    laidOut fs =
      (if presenceBits fs = [] then []
        else if (presenceBits fs).length ≤ 8 then [bitsByte (presenceBits fs)] else twoBytes (bitsOf (presenceBits fs)))
        ++ fs.flatMap fieldBytes := by
  rw [bitsByte_eq]
  rfl

@[simp] theorem presenceBits_nil : presenceBits [] = [] := rfl
@[simp] theorem presenceBits_stands (l : List Byte) (fs : List BodyField) :
    presenceBits (.stands l :: fs) = presenceBits fs := rfl
@[simp] theorem presenceBits_byte (n : Nat) (fs : List BodyField) : presenceBits (.byte n :: fs) = presenceBits fs := rfl
@[simp] theorem presenceBits_mayStand (n : Nat) (o : Option (List Byte)) (fs : List BodyField) :
    presenceBits (.mayStand n o :: fs) = o.isSome :: presenceBits fs := rfl
@[simp] theorem presenceBits_word (o : Option Word16) (fs : List BodyField) :
    presenceBits (.word o :: fs) = o.isSome :: presenceBits fs := by
  cases o <;> rfl

@[simp] theorem presenceBits_append (fs gs : List BodyField) : presenceBits (fs ++ gs) = presenceBits fs ++ presenceBits gs :=
  List.filterMap_append

@[simp] theorem fieldBytes_stands (l : List Byte) : fieldBytes (.stands l) = l := rfl
@[simp] theorem fieldBytes_byte (n : Nat) : fieldBytes (.byte n) = [byteOf n] := rfl
@[simp] theorem fieldBytes_word (o : Option Word16) : fieldBytes (.word o) = optionWord o := (optionWord_eq o).symm
theorem fieldBytes_mayStand (n : Nat) (o : Option (List Byte)) :
    fieldBytes (.mayStand n o) = o.getD (List.replicate n 0) := rfl
@[simp] theorem fieldBytes_mayStand_byte (o : Option Nat) : fieldBytes (.mayStand 1 (o.map oneByte)) = optionByte (o.map byteOf) := by
  cases o <;> rfl

/-! ### Bodies -/

theorem SessionReport.laidOut (r : SessionReport) :
    presenceBits r.fields = [r.effective.isSome] ∧ r.fields.flatMap fieldBytes = r.bytes := by
  refine ⟨by simp [SessionReport.fields], ?_⟩
  simp [SessionReport.fields, SessionReport.bytes, sessionCode_eq, SessionState.code_eq, PendingChange.code_eq, flagByte_eq, byteOf]

theorem ScanReport.laidOut (r : ScanReport) : presenceBits r.fields = [] ∧ r.fields.flatMap fieldBytes = r.bytes := by
  refine ⟨by simp [ScanReport.fields], ?_⟩
  simp [ScanReport.fields, ScanReport.bytes, ScanState.code_eq, SyncLine.code_eq, ResolverPhase.code_eq, byteOf, word16Bytes_eq]

/-- The row of a session, in the order of the table (R200). -/
theorem SessionRow.bytes_eq (r : SessionRow) :
    r.bytes =
      oneByte (placeIn [.detached, .attached, .suspended, .draining] r.state)
        ++ oneByte (placeIn [.noChange, .suspend, .resume, .drain] r.pending) ++ oneByte r.quota ++ oneByte r.ceiling
        ++ oneByte r.leaseMax ++ oneByte r.evicted.toNat ++ oneByte r.regionCount ++ oneByte r.entryCount := by
  simp [SessionRow.bytes, oneByte, byteOf, SessionState.code_eq, PendingChange.code_eq, flagByte_eq]

theorem StatusRecord.bytes_eq (r : StatusRecord) : r.bytes = r.asSent := by
  simp only [StatusRecord.bytes, StatusRecord.asSent, SessionRow.bytes_eq, ScanState.code_eq, SyncLine.code_eq,
    ResolverPhase.code_eq, word16Bytes_eq, wordBytes_eq, colourBytes_eq, bitsByte_eq]
  rcases r.front with _ | ⟨epoch, _ | _⟩ <;> simp [oneByte, byteOf, optionWord, word16Bytes_eq, bitsOf, twoBytes]

theorem StatusRecord.length_asSent (r : StatusRecord) : r.asSent.length = 58 := by
  rw [← r.bytes_eq]
  simp [StatusRecord.bytes, SessionRow.bytes, optionWord, length_word16Bytes, length_wordBytes, length_colourBytes]

theorem twoBytes_probePresence : ∀ a b c : Bool,
    twoBytes (bitsOf [true, true, true, true, true, true, true, a, b, c, true]) =
      [bitsByte [b, c, true], bitsByte [true, true, true, true, true, true, true, a]] := by
  decide

/-- The eleven fields of a PROBE answer that may be absent take two bytes of presence (R139, R140, R200). -/
theorem probe_laidOut (o : Option ProbeReport) : laidOut (probeFields o) = probeBytes o := by
  rw [laidOut_eq]
  cases o with
  | none => rfl
  | some p =>
    have hpresent : presenceBits (probeFields (some p)) =
        [true, true, true, true, true, true, true, p.owner.isSome, p.slot.isSome, p.tag.isSome, true] := by
      simp [probeFields]
    have hbits : probeBytes (some p) =
        [bitsByte [p.slot.isSome, p.tag.isSome, true],
          bitsByte [true, true, true, true, true, true, true, p.owner.isSome]]
          ++ (probeFields (some p)).flatMap fieldBytes := by
      have hy (n : Nat) : word16Bytes (BitVec.ofNat 16 n) = twoBytes n := wordBytes_eq n
      have howner : optionByte (p.owner.map sessionCode) =
          (p.owner.map (fun x => oneByte (sessionNumber x))).getD (List.replicate 1 0) := by
        cases p.owner with
        | none => rfl
        | some x => simp [optionByte, oneByte, sessionCode_eq]
      have hslot : optionByte (p.slot.map (fun k => byteOf k.val)) =
          (p.slot.map (fun k => oneByte k.val)).getD (List.replicate 1 0) := by
        cases p.slot <;> rfl
      simp only [probeBytes, probeFields, Option.any_some, Option.isSome_some, Option.isNone_some, Option.map_some, Option.bind_some,
        List.flatMap_cons, List.flatMap_nil, fieldBytes_byte, fieldBytes_word, fieldBytes_mayStand, howner, hslot]
      simp [optionByte, optionWord, hy, oneByte, byteOf, flagByte_eq, PlanStatus.code_eq, SpanKind.code_eq]
    rw [hbits, hpresent, if_neg (List.cons_ne_nil _ _), if_neg (by simp), twoBytes_probePresence]

theorem Body.bytes_eq (b : Body) : laidOut b.fields = b.bytes := by
  rw [laidOut_eq]
  cases b with
  | empty => rfl
  | session r => simp [Body.fields, Body.bytes, r.laidOut.1, r.laidOut.2]
  | departure r freed retiring => simp [Body.fields, Body.bytes, r.laidOut.1, r.laidOut.2]
  | opened k lease f => simp [Body.fields, Body.bytes]
  | amended k lease merged f => simp [Body.fields, Body.bytes, flagByte_eq, byteOf]
  | renewed k action remaining f => simp [Body.fields, Body.bytes, RenewAction.code_eq, byteOf]
  | renewedAll n m incomplete f => simp [Body.fields, Body.bytes, flagByte_eq, byteOf]
  | released k d f => simp [Body.fields, Body.bytes, Disposition.code_eq, byteOf]
  | pinned k f => simp [Body.fields, Body.bytes]
  | looked st =>
    simp only [Body.fields, Body.bytes]
    split <;> simp [SessionState.code_eq, byteOf]
  | probe o => rw [← laidOut_eq]; exact probe_laidOut o
  | walk n more changed start => simp [Body.fields, Body.bytes, bitsByte_eq, byteOf, word16Bytes_eq]
  | notices n more => simp [Body.fields, Body.bytes, bitsByte_eq, byteOf]
  | configuration w h b g => simp [Body.fields, Body.bytes, wordBytes_eq, colourBytes_eq]
  | conflict k => simp [Body.fields, Body.bytes]
  | scan r => simp [Body.fields, Body.bytes, r.laidOut.1, r.laidOut.2]
  | committed c => simp [Body.fields, Body.bytes, CommitSummary.bytes, flagByte_eq, byteOf, word16Bytes_eq]
  | cleared r regions entries => simp [Body.fields, Body.bytes, r.laidOut.1, r.laidOut.2]
  | status r => simp [Body.fields, Body.bytes, r.bytes_eq]
  | alerts pending cs ps mask outstanding =>
    simp [Body.fields, Body.bytes, flagByte_eq, byteOf, AlertFlags.code_eq, portSetByte_eq, bitsByte_eq]
  | alertMask mask pending => simp [Body.fields, Body.bytes, AlertFlags.code_eq, byteOf]

/-- A body is at most 64 bytes (R200). -/
theorem Body.length_bytes_le (b : Body) : b.bytes.length ≤ 64 := by
  cases b with
  | status r => rw [Body.bytes, r.bytes_eq, r.length_asSent]; decide
  | looked st => simp only [Body.bytes]; split <;> simp
  | _ =>
    simp [Body.bytes, SessionReport.bytes, ScanReport.bytes, CommitSummary.bytes, probeBytes, optionWord, optionByte,
      length_word16Bytes, length_wordBytes, length_colourBytes]

/-! ### Records: fields that stand one after the other -/

/-- A field stands where the sizes of the fields before it say. -/
theorem standsAt_of_sizes {segments : List (List Byte)} {sizes : List Nat} (hsizes : segments.map List.length = sizes)
    {i : Nat} {v : List Byte} (hv : segments[i]? = some v) : StandsAt segments.flatten (sizes.take i).sum v := by
  subst hsizes
  induction segments generalizing i with
  | nil => cases hv
  | cons a l ih =>
    cases i with
    | zero =>
      obtain rfl : a = v := Option.some.inj hv
      simp [StandsAt]
    | succ i =>
      have hv' : l[i]? = some v := hv
      have hrest := ih hv'
      rw [StandsAt, List.map_cons, List.take_succ_cons, List.sum_cons, List.flatten_cons, List.drop_length_add_append]
      exact hrest

/-- The fields of the last 23 bytes of a region report. -/
def tailSegments (k : Slot) (rect : Option Rect) (level : Option Nat) (fill : Option Fill) (stream : Option Nat)
    (colour fallback : Option Colour) (lease remaining grace : Option Nat) (staged flags : Byte) (notices : Option NoticeSet) :
    List (List Byte) :=
  [reportField k 7 8 (rect.map Rect.bytes), reportField k 15 1 (level.map (fun n => [byteOf n])),
   reportField k 16 1 (fill.map (fun f => [f.code])), reportField k 17 1 (stream.map (fun n => [byteOf n])),
   reportField k 18 3 (colour.map colourBytes), reportField k 21 3 (fallback.map colourBytes),
   reportField k 24 1 (lease.map (fun n => [byteOf n])), reportField k 25 1 (remaining.map (fun n => [byteOf n])),
   reportField k 26 1 (grace.map (fun n => [byteOf n])), [staged], [flags],
   reportField k 29 1 (notices.map (fun n => [n.code]))]

/-- A field given by a code of a size has that size, whether it is present or free. -/
theorem length_reportField_map {α : Type} (k : Slot) (offset size : Nat) (o : Option α) (f : α → List Byte)
    (hf : ∀ a, (f a).length = size) : (reportField k offset size (o.map f)).length = size := by
  refine length_reportField k offset size _ (fun l hl => ?_)
  obtain ⟨a, -, rfl⟩ := Option.map_eq_some_iff.mp hl
  exact hf a

theorem tailSegments_sizes (k : Slot) (rect : Option Rect) (level : Option Nat) (fill : Option Fill) (stream : Option Nat)
    (colour fallback : Option Colour) (lease remaining grace : Option Nat) (staged flags : Byte) (notices : Option NoticeSet) :
    (tailSegments k rect level fill stream colour fallback lease remaining grace staged flags notices).map List.length =
      [8, 1, 1, 1, 3, 3, 1, 1, 1, 1, 1, 1] := by
  have h {α : Type} (offset size : Nat) (o : Option α) {f : α → List Byte} (hf : ∀ a, (f a).length = size) :=
    length_reportField_map k offset size o f hf
  simp only [tailSegments, List.map_cons, List.map_nil, List.cons.injEq, and_true]
  exact ⟨h _ _ _ (fun _ => rfl), h _ _ _ (fun _ => rfl), h _ _ _ (fun _ => rfl), h _ _ _ (fun _ => rfl),
    h _ _ _ (fun _ => rfl), h _ _ _ (fun _ => rfl), h _ _ _ (fun _ => rfl), h _ _ _ (fun _ => rfl),
    h _ _ _ (fun _ => rfl), rfl, rfl, h _ _ _ (fun _ => rfl)⟩

/-- The fields of a region report, in order (R67, R68, R200). -/
def RegionReport.segments (r : RegionReport) : List (List Byte) :=
  match r.region with
  | none =>
    [0x00#8, 0x00#8] :: [byteOf r.slot.val] :: [0x00#8] :: [0xFF#8] :: [0xFF#8] :: [0x00#8]
      :: tailSegments r.slot none none none none none none none none none 0x00#8 0x00#8 none
  | some g =>
    word16Bytes g.tag :: [byteOf r.slot.val] :: [g.state.code] :: [sessionCode g.owner] :: [classByte g.owner] :: [g.presence]
      :: tailSegments r.slot g.rect (g.layer.or g.rank) g.fill g.stream g.colour g.fallback g.lease g.remaining g.graceLeft
        ((g.staged.map EntryKind.code).getD 0x00#8) (bitsByte [g.staged.isSome, g.awaiting]) (some g.notices)

theorem RegionReport.bytes_eq (r : RegionReport) : r.bytes = r.segments.flatten := by
  unfold RegionReport.bytes RegionReport.segments
  cases r.region <;> simp [reportTail, tailSegments]

theorem RegionReport.sizes (r : RegionReport) :
    r.segments.map List.length = [2, 1, 1, 1, 1, 1, 8, 1, 1, 1, 3, 3, 1, 1, 1, 1, 1, 1] := by
  unfold RegionReport.segments
  cases r.region <;> simp [tailSegments_sizes, length_word16Bytes]

end Sys2Proof.Machine
end

section
/-! PROOFS. The records of a response stand as the tables lay them out, and the status record (O41, O50). -/

namespace Sys2Proof.Machine

set_option Elab.async false

/-! ### Region reports (R67, R68, R200) -/

theorem StandsAt.append {l v w : List Byte} {o : Nat} (hv : StandsAt l o v) (hw : StandsAt l (o + v.length) w) :
    StandsAt l o (v ++ w) := by
  rw [StandsAt, List.length_append, List.take_add, hv, List.drop_drop, hw]

/-- A field of a report stands at the sum of the sizes before it. -/
theorem RegionReport.standsAt (r : RegionReport) {i : Nat} {v : List Byte} (hv : r.segments[i]? = some v) :
    StandsAt r.bytes (([2, 1, 1, 1, 1, 1, 8, 1, 1, 1, 3, 3, 1, 1, 1, 1, 1, 1] : List Nat).take i).sum v := by
  rw [r.bytes_eq]
  exact standsAt_of_sizes r.sizes hv

theorem RegionReport.length_bytes (r : RegionReport) : r.bytes.length = 30 := by
  rw [r.bytes_eq, List.length_flatten, r.sizes]
  rfl

theorem RegionReport.segments_of_free {r : RegionReport} (h : r.region = none) :
    r.segments =
      [0x00#8, 0x00#8] :: [byteOf r.slot.val] :: [0x00#8] :: [0xFF#8] :: [0xFF#8] :: [0x00#8]
        :: tailSegments r.slot none none none none none none none none none 0x00#8 0x00#8 none := by
  simp only [RegionReport.segments, h]

theorem RegionReport.segments_of_some {r : RegionReport} {g : ReportedRegion} (h : r.region = some g) :
    r.segments =
      word16Bytes g.tag :: [byteOf r.slot.val] :: [g.state.code] :: [sessionCode g.owner] :: [classByte g.owner] :: [g.presence]
        :: tailSegments r.slot g.rect (g.layer.or g.rank) g.fill g.stream g.colour g.fallback g.lease g.remaining g.graceLeft
          ((g.staged.map EntryKind.code).getD 0x00#8) (bitsByte [g.staged.isSome, g.awaiting]) (some g.notices) := by
  simp only [RegionReport.segments, h]

/-- The second field of a report is its slot, of a FREE slot or not. -/
theorem RegionReport.standsAt_slot (r : RegionReport) : StandsAt r.bytes 2 (oneByte r.slot.val) := by
  refine r.standsAt (i := 1) ?_
  cases h : r.region with
  | none => rw [RegionReport.segments_of_free h]; rfl
  | some g => rw [RegionReport.segments_of_some h]; rfl

/-- The report of a FREE slot (R68). -/
theorem RegionReport.standsAt_of_free {r : RegionReport} (h : r.region = none) :
    StandsAt r.bytes 0 (twoBytes 0) ∧ StandsAt r.bytes 3 [0x00#8, 0xFF#8, 0xFF#8, 0x00#8]
      ∧ StandsAt r.bytes 27 [0x00#8, 0x00#8] := by
  have field (i : Nat) {v : List Byte} (hv : r.segments[i]? = some v) := r.standsAt hv
  rw [RegionReport.segments_of_free h] at field
  have hstate : StandsAt r.bytes 3 [0x00#8] := field 2 rfl
  have howner : StandsAt r.bytes 4 [0xFF#8] := field 3 rfl
  have hclass : StandsAt r.bytes 5 [0xFF#8] := field 4 rfl
  have hpresence : StandsAt r.bytes 6 [0x00#8] := field 5 rfl
  have hstaged : StandsAt r.bytes 27 [0x00#8] := field 15 rfl
  have hflags : StandsAt r.bytes 28 [0x00#8] := field 16 rfl
  exact ⟨field 0 rfl, ((hstate.append howner).append hclass).append hpresence, hstaged.append hflags⟩

theorem RegionReport.laidOut (r : RegionReport) : r.LaidOut r.bytes := by
  refine ⟨r.length_bytes, r.standsAt_slot, RegionReport.standsAt_of_free, fun g hg => ?_⟩
  have field (i : Nat) {v : List Byte} (hv : r.segments[i]? = some v) := r.standsAt hv
  rw [RegionReport.segments_of_some hg] at field
  refine ⟨field 0 ?_, field 2 ?_, field 3 ?_, field 4 ?_, field 5 ?_, fun q hq => field 6 ?_, fun n hn => field 7 ?_, fun hnone n hn => field 7 ?_,
    fun f hf => field 8 ?_, fun n hn => field 9 ?_, fun c hc => field 10 ?_, fun c hc => field 11 ?_, fun n hn => field 12 ?_,
    fun n hn => field 13 ?_, fun n hn => field 14 ?_, field 15 ?_, field 16 ?_, field 17 ?_⟩
  · exact congrArg some (word16Bytes_eq _)
  · exact congrArg (fun b => some [b]) (RegionState.code_eq _)
  · exact congrArg (fun b => some [b]) (sessionCode_eq _)
  · exact congrArg (fun b => some [b]) (classByte_eq _)
  · exact congrArg (fun b => some [b]) (bitsByte_eq _)
  · rw [tailSegments, Option.mem_def.mp hq]
    show some q.bytes = _
    simp only [Rect.bytes, wordBytes_eq]
  · rw [tailSegments, Option.mem_def.mp hn]
    rfl
  · rw [tailSegments, hnone, Option.mem_def.mp hn]
    rfl
  · rw [tailSegments, Option.mem_def.mp hf]
    exact congrArg (fun b => some [b]) (Fill.code_eq f)
  · rw [tailSegments, Option.mem_def.mp hn]
    rfl
  · rw [tailSegments, Option.mem_def.mp hc]
    exact congrArg some (colourBytes_eq c)
  · rw [tailSegments, Option.mem_def.mp hc]
    exact congrArg some (colourBytes_eq c)
  · rw [tailSegments, Option.mem_def.mp hn]
    rfl
  · rw [tailSegments, Option.mem_def.mp hn]
    rfl
  · rw [tailSegments, Option.mem_def.mp hn]
    rfl
  · rw [tailSegments]
    refine congrArg (fun b => some [b]) ?_
    cases g.staged with
    | none => rfl
    | some k => exact EntryKind.code_eq k
  · exact congrArg (fun b => some [b]) (bitsByte_eq _)
  · exact congrArg (fun b => some [b]) (NoticeSet.code_eq _)

/-! ### Notice entries and records (R200) -/

theorem TagEntry.laidOut (e : TagEntry) : e.LaidOut e.bytes := by
  unfold TagEntry.LaidOut TagEntry.bytes
  rw [word16Bytes_eq, NoticeSet.code_eq]
  cases e.slot <;> rfl

theorem Record.laidOut (r : Record) : r.LaidOut r.bytes := by
  cases r with
  | region g => exact g.laidOut
  | notice e => exact e.laidOut

/-- The bytes of a response: its header, its body's fields and its records (R200). -/
theorem Response.bytes_eq (r : Response) : r.bytes = r.asSent (r.reply.records.map Record.bytes) := by
  simp only [Response.bytes, Response.asSent, Body.bytes_eq, ResultCode.code_eq, List.length_map, List.flatMap_def, oneByte,
    byteOf, List.cons_append, List.nil_append]

theorem Response.records_laidOut (r : Response) :
    ∀ z ∈ r.reply.records.zip (r.reply.records.map Record.bytes), z.1.LaidOut z.2 := by
  generalize r.reply.records = l
  induction l with
  | nil =>
    intro z hz
    exact absurd hz (List.not_mem_nil)
  | cons a l ih =>
    intro z hz
    rw [List.map_cons, List.zip_cons_cons] at hz
    obtain rfl | hz := List.mem_cons.mp hz
    · exact Record.laidOut a
    · exact ih z hz

/-! ### READ_STATUS (R199) -/

/-- SUP's record but for its cursor, constant at all times (R24, R25, R199). -/
theorem supRecord_of_legal {s : State} (h : s.SessionsLegal) :
    s.sessions.get .sup = { SessionRecord.supReset with cursor := (s.sessions.get .sup).cursor } := by
  obtain ⟨-, -, hsup⟩ := h
  exact congrArg (fun r : SessionRecord => { r with cursor := s.sessions.sup.cursor }) hsup

/-- Settles O41: the record as the rule forms it, and its bytes. -/
theorem readStatusReportsThePart : Obligations.ReadStatusReportsThePart := by
  intro q s hchoice owned
  have hrow (x : Session) : s.statusRecord.rows.get x = s.sessionRow x := PerSession.get_make _ x
  refine ⟨s.statusRecord.rows, ?_, fun x => ?_, fun hlegal => ?_, fun z => ⟨z.bytes_eq, z.length_asSent⟩⟩
  · exact exec_taken rfl hchoice (.inr rfl) (.inl nofun) rfl
  · exact hrow x
  · refine (hrow .sup).trans ?_
    rw [State.sessionRow, supRecord_of_legal hlegal]
    rfl

end Sys2Proof.Machine
end

section
/-! PROOFS. Framing errors, reads, the ends of reads and status bytes, and what a port drives (O50). -/

namespace Sys2Proof.Machine

set_option Elab.async false

/-- No kind of the table has the code and the length: the header fails the framing checks (R191). -/
theorem headerKind_eq_none {kind length : Byte} (h : ∀ k : Kind, k.code = kind → k.bodyLength ≠ length.toNat) :
    headerKind kind length = none := by
  cases hk : kindOfCode kind with
  | none => simp [headerKind, hk]
  | some k => simp [headerKind, hk, Option.filter, h k (code_of_kindOfCode hk)]

section
variable {s : State} (hlow : s.resetLow = false) (p : Port)
include hlow

theorem checkHeader_of_bad {kind seq length : Byte} {held : List Byte} (ht : (s.ports.get p).transaction = .header held)
    (hheld : held <+: [kind, seq, length]) (hbad : headerKind kind length = none) :
    s.checkHeader p kind seq length = (s.setTransaction p (.status .framing)).raise (.framing p) := by
  have hprefix : held.isPrefixOf [kind, seq, length] = true := List.isPrefixOf_iff_prefix.mpr hheld
  simp only [State.checkHeader, State.transactionOf, hlow, ht, hprefix, if_true, State.endHeader, hbad]

theorem badCommand_of_command (ht : (s.ports.get p).transaction = .command) :
    s.badCommand p = (s.setTransaction p .ignoring).raise (.framing p) := by
  simp only [State.badCommand, State.transactionOf, hlow, ht]

theorem readCommand_of_command (ht : (s.ports.get p).transaction = .command) :
    s.readCommand p = s.setTransaction p (readEntry (s.ports.get p).responses) := by
  simp only [State.readCommand, State.transactionOf, hlow, ht]

theorem finishResponse_of_sending {r : Response} {queued : Bool} (ht : (s.ports.get p).transaction = .sending r queued) :
    s.finishResponse p =
      s.mapPort p (fun q =>
        { q with responses := if queued then q.responses.tail else q.responses, transaction := .ignoring }) := by
  simp only [State.finishResponse, State.transactionOf, hlow, ht]

theorem statusSent_of_status {w : WriteStatus} (ht : (s.ports.get p).transaction = .status w) :
    s.statusSent p = s.setTransaction p .ignoring := by
  simp only [State.statusSent, State.transactionOf, hlow, ht]

end

/-- What a port drives in each transaction state (R189 to R194, R200). -/
theorem drives_by_transaction (h : List Byte) (k : Kind) (q : Byte) (r : Response) (queued : Bool) :
    Transaction.idle.drives = .highImpedance
      ∧ (∀ t ∈ [Transaction.command, .header h, .body k q h], t.drives = .always 0x00#8)
      ∧ (∀ w ∈ [(WriteStatus.accepted, 0x00#8), (.full, 0x01#8), (.framing, 0x02#8)],
          (Transaction.status w.1).drives = .message [w.2])
      ∧ Transaction.ignoring.drives = .always 0xFF#8
      ∧ (laidOut r.reply.body.fields).length ≤ 64
      ∧ ∃ records : List (List Byte),
          records.length = r.reply.records.length ∧ (∀ z ∈ r.reply.records.zip records, z.1.LaidOut z.2)
            ∧ (Transaction.sending r queued).drives = .message (r.asSent records) := by
  refine ⟨rfl, ?_, by decide, rfl, ?_, r.reply.records.map Record.bytes, List.length_map _, r.records_laidOut,
    congrArg Drive.message r.bytes_eq⟩
  · simp [Transaction.drives]
  · rw [Body.bytes_eq]
    exact r.reply.body.length_bytes_le

/-- Settles O50, event by event. -/
theorem framingAndReads : Obligations.FramingAndReads := by
  refine ⟨fun p kind seq length byte s hlow => ?_, fun p r l queued w s hlow => ?_, drives_by_transaction⟩
  · intro left
    have hleft (t : Transaction) : (s.setTransaction p t).raise (.framing p) = left t := rfl
    refine ⟨fun ⟨held, ht, hheld⟩ hbad => ?_, fun ht hwrite hread => ?_⟩
    · exact congrArg Host.Outcome.next
        ((checkHeader_of_bad hlow p ht hheld (headerKind_eq_none hbad)).trans (hleft _))
    · refine congrArg Host.Outcome.next ((if_neg ?_).trans ((badCommand_of_command hlow p ht).trans (hleft _)))
      simp [hwrite, hread]
  · intro old left
    refine ⟨fun ht hempty => ?_, fun ht hqueue => ?_, fun ht => ?_, fun ht => ?_⟩
    · have hentry : readEntry (s.ports.get p).responses = .ignoring := congrArg readEntry hempty
      exact congrArg Host.Outcome.next ((readCommand_of_command hlow p ht).trans (congrArg (s.setTransaction p) hentry))
    · have hentry : readEntry (s.ports.get p).responses = .sending r true := congrArg readEntry hqueue
      exact congrArg Host.Outcome.next ((readCommand_of_command hlow p ht).trans (congrArg (s.setTransaction p) hentry))
    · exact congrArg Host.Outcome.next (finishResponse_of_sending hlow p ht)
    · exact congrArg Host.Outcome.next (statusSent_of_status hlow p ht)

end Sys2Proof.Machine
end

section
/-! PROOFS. A step runs the command in front, and what the state does not admit changes nothing (O1, O2). -/

namespace Sys2Proof.Machine

set_option Elab.async false

/-- Settles O1: a step takes the command in front and runs it on the rest. -/
theorem stepRunsTheCommandInFront : Obligations.StepRunsTheCommandInFront := by
  intro c s
  rfl

theorem State.takeCommit_of_none {s : State} (h : s.commitsDue = []) : s.takeCommit = s := by
  simp [State.takeCommit, h]

theorem State.completeResolve_of_not {s : State} (h : ∀ j, s.resolver ≠ .resolving j) : s.completeResolve = s := by
  unfold State.completeResolve
  split
  · next j hj => exact absurd hj (h j)
  · rfl
  · rfl

/-! ### A port's transaction state that does not take the event (R189 to R194) -/

section
variable {s : State} {p : Port}

theorem State.writeCommand_of_not (h : s.resetLow = true ∨ (s.ports.get p).transaction ≠ .command) :
    s.writeCommand p = s := by
  unfold State.writeCommand
  split
  · next hlow ht => exact absurd ht (h.resolve_left (by simp [hlow]))
  · rfl

theorem State.readCommand_of_not (h : s.resetLow = true ∨ (s.ports.get p).transaction ≠ .command) :
    s.readCommand p = s := by
  unfold State.readCommand
  split
  · next hlow ht => exact absurd ht (h.resolve_left (by simp [hlow]))
  · rfl

theorem State.badCommand_of_not (h : s.resetLow = true ∨ (s.ports.get p).transaction ≠ .command) :
    s.badCommand p = s := by
  unfold State.badCommand
  split
  · next hlow ht => exact absurd ht (h.resolve_left (by simp [hlow]))
  · rfl

theorem State.checkHeader_of_not {k q n : Byte}
    (h : s.resetLow = true ∨ ∀ held, (s.ports.get p).transaction = .header held → ¬ held <+: [k, q, n]) :
    s.checkHeader p k q n = s := by
  unfold State.checkHeader
  split
  · next held hlow ht =>
    refine if_neg (fun hprefix => ?_)
    exact h.resolve_left (by simp [hlow]) held ht (List.isPrefixOf_iff_prefix.mp hprefix)
  · rfl

theorem PortState.receiveBody_of_beyond (q : PortState) {k : Kind} (seq : Byte) {l : List Byte} (h : k.bodyLength < l.length) :
    q.receiveBody k seq l = q := by
  have hnone : callOfBytes k l = none := ((bodyLayout k).none l).mpr (Nat.ne_of_gt h)
  simp only [PortState.receiveBody, hnone, Nat.not_lt.mpr (Nat.le_of_lt h), if_false]

theorem State.mapPort_self {f : PortState → PortState} (h : f (s.ports.get p) = s.ports.get p) : s.mapPort p f = s := by
  rw [State.mapPort, h, PerSession.set_get]

theorem State.receiveBytes_of_not {l : List Byte}
    (h : s.resetLow = true ∨
      ((∀ held, (s.ports.get p).transaction = .header held → 3 ≤ (held ++ l).length)
        ∧ ∀ kind seq held, (s.ports.get p).transaction = .body kind seq held → kind.bodyLength < (held ++ l).length)) :
    s.receiveBytes p l = s := by
  unfold State.receiveBytes
  split
  · next held hlow ht =>
    obtain ⟨hheader, -⟩ := h.resolve_left (by simp [hlow])
    exact if_neg (Nat.not_lt.mpr (hheader held ht))
  · next k q held hlow ht =>
    obtain ⟨-, hbody⟩ := h.resolve_left (by simp [hlow])
    exact State.mapPort_self (PortState.receiveBody_of_beyond _ q (hbody k q held ht))
  · rfl

theorem State.finishResponse_of_not (h : s.resetLow = true ∨ ∀ r queued, (s.ports.get p).transaction ≠ .sending r queued) :
    s.finishResponse p = s := by
  unfold State.finishResponse
  split
  · next r queued hlow ht => exact absurd ht (h.resolve_left (by simp [hlow]) r queued)
  · rfl

theorem State.statusSent_of_not (h : s.resetLow = true ∨ ∀ w, (s.ports.get p).transaction ≠ .status w) :
    s.statusSent p = s := by
  unfold State.statusSent
  split
  · next w hlow ht => exact absurd ht (h.resolve_left (by simp [hlow]) w)
  · rfl

theorem State.selectFall_of_not (h : (s.ports.get p).transaction ≠ .idle) : s.selectFall p = s := by
  unfold State.selectFall
  split
  · next ht => exact absurd ht h
  all_goals rfl

theorem State.selectRise_of_idle (h : (s.ports.get p).transaction = .idle) : s.selectRise p = s :=
  State.mapPort_self (f := fun q => { q with transaction := .idle }) (by rw [← h])

end

theorem State.query_of_low {s : State} (h : s.resetLow = true) (code : Byte) (form : State → Answer) : s.query code form = s :=
  if_pos h

/-- Settles O2, happening by happening. -/
theorem unadmittedHappeningsChangeNothing : Obligations.UnadmittedHappeningsChangeNothing := by
  intro s
  have next {t : State} (h : t = s) : Host.Outcome.next t = (.next s : Result) := congrArg Host.Outcome.next h
  refine ⟨fun hnone => ?_, fun c p r hc hchoice => ?_, fun c hc hdue => ?_, fun hpool k => ⟨fun hlapse hretire => ?_,
      fun hretire => ?_⟩,
    fun hresolver => next (State.completeResolve_of_not hresolver), fun hidle => next (by rw [State.answerSent, ← hidle]),
    fun p b k q n l => ?_, fun hlow p b k q n y l => ?_⟩
  · simp [Machine.step, hnone]
  · rw [exec_request hc]
    exact next (State.serve_of_not_choice hchoice)
  · have hcommit := State.takeCommit_of_none hdue
    simp only [List.mem_append, List.mem_singleton, List.mem_map] at hc
    obtain (rfl | ⟨k, -, rfl⟩) | ⟨k, -, rfl⟩ := hc
    · exact next hcommit
    · exact next (ite_eq_right_iff.mpr fun _ => hcommit)
    · exact next (ite_eq_right_iff.mpr fun _ => hcommit)
  · exact exec_leaseLapse_of_not hpool hlapse hretire
  · exact exec_graceRetire_of_not hpool hretire
  · intro t
    refine ⟨fun ht => ?_, fun ht => next (State.checkHeader_of_not (.inr ht)),
      fun hheader hbody => next (State.receiveBytes_of_not (.inr ⟨hheader, hbody⟩)),
      fun ht => next (State.finishResponse_of_not (.inr ht)), fun ht => next (State.statusSent_of_not (.inr ht)),
      fun ht => next (State.selectFall_of_not ht), fun ht => next (State.selectRise_of_idle ht), fun hb => next (if_pos hb),
      fun hb => next (if_pos hb)⟩
    simp only [List.forall_mem_cons, List.not_mem_nil, false_imp_iff, implies_true, and_true]
    exact ⟨next (State.writeCommand_of_not (.inr ht)), next (State.readCommand_of_not (.inr ht)),
      next (ite_eq_left_iff.mpr fun _ => State.badCommand_of_not (.inr ht))⟩
  · simp only [List.forall_mem_cons, List.not_mem_nil, false_imp_iff, implies_true, and_true]
    exact ⟨next (State.writeCommand_of_not (.inl hlow)), next (State.readCommand_of_not (.inl hlow)),
      next (ite_eq_left_iff.mpr fun _ => State.badCommand_of_not (.inl hlow)), next (State.checkHeader_of_not (.inl hlow)),
      next (State.receiveBytes_of_not (.inl hlow)), next (State.finishResponse_of_not (.inl hlow)),
      next (State.statusSent_of_not (.inl hlow)), next (State.query_of_low hlow _ _), next (State.query_of_low hlow _ _),
      next (State.query_of_low hlow _ _), next (ite_eq_left_iff.mpr fun _ => State.query_of_low hlow _ _),
      next (State.takeVblank_of_not_taken (.inl hlow)), next (State.takeFstart_of_not_taken (.inl hlow))⟩

end Sys2Proof.Machine
end
